-- ==== Sys2Proof/Word.lean ====
section
/-! DEFINITION. The word types of the block and the colour triple. -/

namespace Sys2Proof

/-- A pixel channel, or one byte of a frame (00_scope.md R8). -/
abbrev Byte := BitVec 8

/-- The 16-bit S field and the registers that hold samples and counts (30_encoding.md R81). -/
abbrev Half := BitVec 16

/-- A register as RDREG reads it, a timestamp, a response's data (00_scope.md R8). -/
abbrev Word := BitVec 32

/-- A command word (30_encoding.md R80). -/
abbrev CmdWord := BitVec 64

/-- A colour (00_scope.md R14). -/
structure Colour where
  r : Byte
  g : Byte
  b : Byte
  deriving DecidableEq, Repr, Inhabited

/-- BLACK = (0, 0, 0) (00_scope.md R14). -/
def Colour.black : Colour := ⟨0, 0, 0⟩

end Sys2Proof
end

