-- ==== Sys2Proof/Config.lean ====
section
/-! DEFINITION. The configuration record `cfg` of 00_scope.md R7, its legal ranges, and the reference deployment, in
which the parameters the source gives no value for are opaque constants. -/

namespace Sys2Proof

/-- One entry (index, r, g, b) of a pattern table (00_scope.md R7). -/
structure PatternEntry where
  index : Nat
  colour : Colour
  deriving DecidableEq, Repr, Inhabited

/-- The fields of `cfg`, in the order of the table of 00_scope.md R7. -/
structure Params where
  w : Nat
  npix : Nat
  sw : Nat
  gainNum : Nat
  gainDen : Nat
  threshold : Nat
  debounce : Nat
  hold : Nat
  toneLevel : Nat
  alarm : List PatternEntry
  idle : List PatternEntry
  deriving DecidableEq, Repr

/-- The legal ranges of 00_scope.md R7 (a colour's channels are below 256 by their type). -/
abbrev Params.Legal (p : Params) : Prop :=
  (1 ≤ p.w ∧ p.w ≤ 256) ∧ (1 ≤ p.npix ∧ p.npix ≤ 256) ∧ (1 ≤ p.sw ∧ p.sw ≤ 16) ∧
  (p.gainNum < 2 ^ 32 ∧ 1 ≤ p.gainDen ∧ p.gainDen < 2 ^ 32 ∧ (2 ^ p.sw - 1) * p.gainNum < 2 ^ 32) ∧
  p.threshold < 2 ^ 32 ∧ p.debounce < 2 ^ 31 ∧ p.hold < 2 ^ 31 ∧ p.toneLevel < 2 ^ 32 ∧
  (∀ e ∈ p.alarm, e.index < p.npix) ∧ (∀ e ∈ p.idle, e.index < p.npix)

/-- A configuration of a block. One outside the ranges is refused, "the model has no block for it" (00_scope.md R7), so
the record carries the proof that it is legal. DESIGN CHOICE, log 1. -/
structure Cfg extends Params where
  legal : toParams.Legal
  deriving DecidableEq, Repr

/-- DEBOUNCE of the reference deployment: OPEN, below 2^31 (00_scope.md R7; 91_not_in_source.md N1). Log 4. -/
opaque Config.openDebounce : BitVec 31

/-- HOLD of the reference deployment: OPEN, below 2^31 (00_scope.md R7; 91_not_in_source.md N1). Log 4. -/
opaque Config.openHold : BitVec 31

/-- TONE_LEVEL of the reference deployment: OPEN (00_scope.md R7; 91_not_in_source.md N2). Log 4. -/
opaque Config.openToneLevel : Word

/-- The one colour of the two ALARM entries for index 12: OPEN (00_scope.md R7; 91_not_in_source.md N3). Log 4. -/
opaque Config.openAlarmColour12 : Colour

/-- The entries of ALARM at other indexes, before, between and after the two for index 12: OPEN
(91_not_in_source.md N3). Log 4. -/
opaque Config.openAlarmBefore : List (Fin 25 × Colour)

@[inherit_doc Config.openAlarmBefore]
opaque Config.openAlarmBetween : List (Fin 25 × Colour)

@[inherit_doc Config.openAlarmBefore]
opaque Config.openAlarmAfter : List (Fin 25 × Colour)

/-- IDLE of the reference deployment: OPEN (00_scope.md R7; 91_not_in_source.md N3). Log 4. -/
opaque Config.openIdle : List (Fin 25 × Colour)

/-- A table over the 25 pixels of the reference deployment as pattern entries. -/
def Config.entries (l : List (Fin 25 × Colour)) : List PatternEntry :=
  l.map fun e => ⟨e.1.val, e.2⟩

/-- The entries of an open list that are not for index 12, which ALARM names exactly twice (00_scope.md R7). -/
def Config.not12 (l : List (Fin 25 × Colour)) : List PatternEntry :=
  Config.entries (l.filter fun e => decide (e.1.val ≠ 12))

/-- ALARM of the reference deployment: "contains index 12 twice with the same colour" (00_scope.md R7). -/
def Config.referenceAlarm : List PatternEntry :=
  Config.not12 Config.openAlarmBefore ++ [⟨12, Config.openAlarmColour12⟩] ++
    Config.not12 Config.openAlarmBetween ++ [⟨12, Config.openAlarmColour12⟩] ++ Config.not12 Config.openAlarmAfter

theorem Config.entries_index_lt (l : List (Fin 25 × Colour)) : ∀ e ∈ Config.entries l, e.index < 25 := by
  intro e he
  obtain ⟨x, -, rfl⟩ := List.mem_map.1 he
  exact x.1.isLt

theorem Config.referenceAlarm_index_lt : ∀ e ∈ Config.referenceAlarm, e.index < 25 := by
  intro e he
  simp only [Config.referenceAlarm, Config.not12, List.mem_append, List.mem_singleton] at he
  rcases he with (((he | rfl) | he) | rfl) | he
  · exact Config.entries_index_lt _ e he
  · decide
  · exact Config.entries_index_lt _ e he
  · decide
  · exact Config.entries_index_lt _ e he

/-- The reference deployment: the values of 00_scope.md R7's last-but-one column, the OPEN ones free. Log 4. -/
def Config.reference : Cfg where
  w := 10
  npix := 25
  sw := 12
  gainNum := 13
  gainDen := 10
  threshold := 50
  debounce := Config.openDebounce.toNat
  hold := Config.openHold.toNat
  toneLevel := Config.openToneLevel.toNat
  alarm := Config.referenceAlarm
  idle := Config.entries Config.openIdle
  legal := ⟨by decide, by decide, by decide, by decide, by decide, Config.openDebounce.isLt, Config.openHold.isLt,
    Config.openToneLevel.isLt, Config.referenceAlarm_index_lt, Config.entries_index_lt _⟩

end Sys2Proof
end

