-- ==== Sys2Proof/Syntax.lean ====
section
/-! DEFINITION. The SSD command set: one constructor per row of the opcode table (30_encoding.md R83). -/

namespace Sys2Proof

/-- A command with its operands (30_encoding.md R84). `err` is the acquisition-error flag E. -/
inductive Instr where
  /-- NOP (43_control.md R180). -/
  | nop
  /-- CAL_START count (40_smoother.md R112). -/
  | calStart (count : Half)
  /-- CAL_SAMPLE raw, with the flag E (40_smoother.md R114). -/
  | calSample (err : Bool) (raw : Half)
  /-- PUSH raw, with the flag E (40_smoother.md R120). -/
  | push (err : Bool) (raw : Half)
  /-- TICK now (41_detection.md R140). -/
  | tick (now : Word)
  /-- STEP raw, now, with the flag E (41_detection.md R142). -/
  | step (err : Bool) (raw : Half) (now : Word)
  /-- PIX_SET index, r, g, b (42_pixel.md R160). -/
  | pixSet (index : Byte) (r g b : Byte)
  /-- PIX_CLEAR (42_pixel.md R162). -/
  | pixClear
  /-- PIX_FLUSH (42_pixel.md R164). -/
  | pixFlush
  /-- RDREG addr (43_control.md R182). -/
  | rdreg (addr : Half)
  deriving DecidableEq, Repr

end Sys2Proof
end

