-- ==== Sys2Proof/WellFormed.lean ====
section
/-! DEFINITION. Which commands a word can encode: a sample is in range (30_encoding.md R84). Every other operand fills
its field. -/

namespace Sys2Proof

/-- A command that some word decodes to, in a block whose samples have `sw` bits: "raw = S ... is legal only if
raw < 2^SW" (30_encoding.md R84). -/
def Instr.wellFormed (sw : Nat) : Instr → Bool
  | .calSample _ raw => decide (raw.toNat < 2 ^ sw)
  | .push _ raw => decide (raw.toNat < 2 ^ sw)
  | .step _ raw _ => decide (raw.toNat < 2 ^ sw)
  | .nop => true
  | .calStart _ => true
  | .tick _ => true
  | .pixSet _ _ _ _ => true
  | .pixClear => true
  | .pixFlush => true
  | .rdreg _ => true

end Sys2Proof
end

