-- ==== Sys2Proof/Decode.lean ====
section
/-! DEFINITION. The command word: fields, formats, the opcode map, the decoder of 30_encoding.md R85, and the encoder. -/

namespace Sys2Proof

/-! ## Fields of the command word (R81) -/

/-- OP, bits 63:60. -/
def fieldOp (cw : CmdWord) : BitVec 4 := cw.extractLsb' 60 4

/-- E, bit 59. -/
def fieldE (cw : CmdWord) : Bool := cw.getLsbD 59

/-- I, bits 55:48. -/
def fieldI (cw : CmdWord) : Byte := cw.extractLsb' 48 8

/-- S, bits 47:32. -/
def fieldS (cw : CmdWord) : Half := cw.extractLsb' 32 16

/-- T, bits 31:0. -/
def fieldT (cw : CmdWord) : Word := cw.extractLsb' 0 32

/-- The colour in T: r = T[23:16], g = T[15:8], b = T[7:0] (R81). -/
def colourOfT (t : Word) : Colour := ⟨t.extractLsb' 16 8, t.extractLsb' 8 8, t.extractLsb' 0 8⟩

/-! ## Formats and the opcode map (R82, R83) -/

/-- The seven formats of R82. -/
inductive Format where
  | fn | fc | fs | ft | fst | fp | fr
  deriving DecidableEq, Repr

/-- The commands by opcode (R83). -/
inductive Op where
  | nop | calStart | calSample | push | tick | step | pixSet | pixClear | pixFlush | rdreg
  deriving DecidableEq, Repr

/-- A row of the opcode map. -/
structure OpRow where
  op : Op
  code : BitVec 4
  format : Format
  pattern : CmdWord
  mask : CmdWord
  deriving DecidableEq, Repr

/-- The table of R83, row for row. -/
def opTable : List OpRow :=
  [ ⟨.nop,       0x0, .fn,  0x0000000000000000, 0xFFFFFFFFFFFFFFFF⟩,
    ⟨.calStart,  0x1, .fc,  0x1000000000000000, 0xFFFF0000FFFFFFFF⟩,
    ⟨.calSample, 0x2, .fs,  0x2000000000000000, 0xF7FF0000FFFFFFFF⟩,
    ⟨.push,      0x3, .fs,  0x3000000000000000, 0xF7FF0000FFFFFFFF⟩,
    ⟨.tick,      0x4, .ft,  0x4000000000000000, 0xFFFFFFFF00000000⟩,
    ⟨.step,      0x5, .fst, 0x5000000000000000, 0xF7FF000000000000⟩,
    ⟨.pixSet,    0x6, .fp,  0x6000000000000000, 0xFF00FFFFFF000000⟩,
    ⟨.pixClear,  0x7, .fn,  0x7000000000000000, 0xFFFFFFFFFFFFFFFF⟩,
    ⟨.pixFlush,  0x8, .fn,  0x8000000000000000, 0xFFFFFFFFFFFFFFFF⟩,
    ⟨.rdreg,     0x9, .fr,  0x9000000000000000, 0xFFFF0000FFFFFFFF⟩ ]

/-- The row for an opcode; none for the undefined opcodes 0xA to 0xF. -/
def rowOf (code : BitVec 4) : Option OpRow := opTable.find? fun r => r.code == code

/-! ## Decode (R84, R85) -/

/-- Why a word is illegal (R86). -/
inductive IllegalWord where
  /-- OP is 0xA to 0xF: info 1. -/
  | undefinedOpcode
  /-- A reserved bit of the format is 1: info 2. -/
  | reservedBitSet
  /-- The sample field is 2^SW or more: info 3. -/
  | sampleOutOfRange
  deriving DecidableEq, Repr

/-- The `info` of Illegal(info) (R85). -/
def IllegalWord.info : IllegalWord → Half
  | .undefinedOpcode => 1
  | .reservedBitSet => 2
  | .sampleOutOfRange => 3

/-- What decode returns: a command with its operands, or Illegal (R85). -/
inductive Decoded where
  | cmd (i : Instr)
  | illegal (why : IllegalWord)
  deriving DecidableEq, Repr

/-- A format that carries a sample (R85). -/
def Format.hasSample : Format → Bool
  | .fs => true
  | .fst => true
  | .fn => false
  | .fc => false
  | .ft => false
  | .fp => false
  | .fr => false

/-- The operands of a command, taken from the fields (R84). -/
def operandsOf (op : Op) (cw : CmdWord) : Instr :=
  match op with
  | .nop => .nop
  | .calStart => .calStart (fieldS cw)
  | .calSample => .calSample (fieldE cw) (fieldS cw)
  | .push => .push (fieldE cw) (fieldS cw)
  | .tick => .tick (fieldT cw)
  | .step => .step (fieldE cw) (fieldS cw) (fieldT cw)
  | .pixSet => .pixSet (fieldI cw) (colourOfT (fieldT cw)).r (colourOfT (fieldT cw)).g (colourOfT (fieldT cw)).b
  | .pixClear => .pixClear
  | .pixFlush => .pixFlush
  | .rdreg => .rdreg (fieldS cw)

/-- decode(CW) of R85, for a block whose samples have `sw` bits. -/
def decode (sw : Nat) (cw : CmdWord) : Decoded :=
  match rowOf (fieldOp cw) with
  | none => .illegal .undefinedOpcode
  | some row =>
    if cw &&& row.mask ≠ row.pattern then .illegal .reservedBitSet
    else if row.format.hasSample ∧ 2 ^ sw ≤ (fieldS cw).toNat then .illegal .sampleOutOfRange
    else .cmd (operandsOf row.op cw)

/-! ## Encode (R81, R82, R100) -/

/-- A word from its six pieces, "widths 4, 1, 3, 8, 16 and 32 bits: OP, E, reserved, I, S, T" (R100). -/
def assemble (op : BitVec 4) (e : Bool) (i : Byte) (s : Half) (t : Word) : CmdWord :=
  op ++ BitVec.ofBool e ++ 0#3 ++ i ++ s ++ t

/-- The command of an instruction. -/
def Instr.op : Instr → Op
  | .nop => .nop
  | .calStart _ => .calStart
  | .calSample _ _ => .calSample
  | .push _ _ => .push
  | .tick _ => .tick
  | .step _ _ _ => .step
  | .pixSet _ _ _ _ => .pixSet
  | .pixClear => .pixClear
  | .pixFlush => .pixFlush
  | .rdreg _ => .rdreg

/-- The OP field of a command's word (R83). -/
def Op.code : Op → BitVec 4
  | .nop => 0x0
  | .calStart => 0x1
  | .calSample => 0x2
  | .push => 0x3
  | .tick => 0x4
  | .step => 0x5
  | .pixSet => 0x6
  | .pixClear => 0x7
  | .pixFlush => 0x8
  | .rdreg => 0x9

/-- The word of a command (R100). -/
def encode : Instr → CmdWord
  | .nop => assemble (Op.code .nop) false 0 0 0
  | .calStart count => assemble (Op.code .calStart) false 0 count 0
  | .calSample err raw => assemble (Op.code .calSample) err 0 raw 0
  | .push err raw => assemble (Op.code .push) err 0 raw 0
  | .tick now => assemble (Op.code .tick) false 0 0 now
  | .step err raw now => assemble (Op.code .step) err 0 raw now
  | .pixSet index r g b => assemble (Op.code .pixSet) false index 0 (0#8 ++ r ++ g ++ b)
  | .pixClear => assemble (Op.code .pixClear) false 0 0 0
  | .pixFlush => assemble (Op.code .pixFlush) false 0 0 0
  | .rdreg addr => assemble (Op.code .rdreg) false 0 addr 0

/-- What the decoder reads from a word of the opcode table, for the reference deployment's sample width. A command is
one 64-bit word (R80), so `w` is that word. -/
def decodeTableWord (nbits w : Nat) : Option Instr :=
  match decode Config.reference.sw (BitVec.ofNat 64 (w % 2 ^ nbits)) with
  | .cmd i => some i
  | .illegal _ => none

end Sys2Proof
end

