-- ==== Sys2Proof/Machine/State.lean ====
section
/-! DEFINITION. The state of the block (10_state.md), the host's inputs it has not taken yet, the two outcomes other
than a next state, and the state after reset. -/

namespace Sys2Proof.Machine

/-- STATE, "one of {Idle, Active}" (10_state.md R31). -/
inductive DetState where
  | idle
  | active
  deriving DecidableEq, Repr

/-- The output events of 10_state.md R38. -/
inductive OutEvent where
  /-- One flush, with its 3·NPIX bytes. -/
  | frame (bytes : List Byte)
  /-- A write of the status-LED line. -/
  | statusLed (level : Bool)
  /-- A write of the indicator-LED line. -/
  | indLed (level : Bool)
  /-- A write of the duty-cycle output. -/
  | duty (level : Word)
  deriving DecidableEq, Repr

/-- The response codes of 30_encoding.md R95. -/
inductive RespCode where
  | ok
  | fault
  | ignored
  | badreg
  deriving DecidableEq, Repr

/-- A response (RC, DATA) (30_encoding.md R95). -/
structure Response where
  rc : RespCode
  data : Word
  deriving DecidableEq, Repr

/-- What the host presents: a command word (30_encoding.md R80), or the reset input (70_reset_and_hazards.md R240). -/
inductive HostInput where
  | command (cw : CmdWord)
  | reset
  deriving DecidableEq, Repr

/-- The faults a command can raise (60_exceptions.md R213). They are next states of the machine, in which FAULTED = 1. -/
inductive FaultKind where
  | acquisitionFailure
  | indexOutOfRange
  | illegalCommand
  | notCalibrated
  | recalibration
  | calCountZero
  | calSequence
  deriving DecidableEq, Repr

/-- Every register, store and port of 10_state.md, the responses of 30_encoding.md R95, and three things the model
carries: the configuration (log 1), the responses given so far (log 3) and the host's inputs still to come (log 2). -/
@[ext]
structure State where
  /-- The configuration of this block (00_scope.md R7); constant. -/
  cfg : Cfg
  /-- RING (R22): W slots. -/
  ring : List Half
  /-- CURSOR (R23). -/
  cursor : BitVec 8
  /-- SMOOTHED (R24). -/
  smoothed : Half
  /-- OFFSET (R25). -/
  offset : Half
  /-- CAL_DONE (R26). -/
  calDone : Bool
  /-- CAL_ACTIVE (R27). -/
  calActive : Bool
  /-- CAL_ACC (R28). -/
  calAcc : Word
  /-- CAL_REMAIN (R29). -/
  calRemain : Half
  /-- CAL_COUNT (R30). -/
  calCount : Half
  /-- STATE (R31). -/
  detState : DetState
  /-- ACT_TIME (R32). -/
  actTime : Word
  /-- DEACT_TIME (R33). -/
  deactTime : Word
  /-- DEB_PENDING (R34). -/
  debPending : Bool
  /-- AMPLITUDE (R35). -/
  amplitude : Word
  /-- PIX (R36): NPIX pixels. -/
  pix : List Colour
  /-- FRAMES (R37). -/
  frames : Word
  /-- STATUS_LED (R39). -/
  statusLed : Bool
  /-- IND_LED (R39). -/
  indLed : Bool
  /-- DUTY (R40). -/
  duty : Word
  /-- FAULTED (R42). -/
  faulted : Bool
  /-- FAULT_CODE (R42). -/
  faultCode : BitVec 8
  /-- FAULT_OP (R42). -/
  faultOp : BitVec 4
  /-- FAULT_INFO (R42). -/
  faultInfo : Half
  /-- OUT (R38), oldest event first. -/
  out : List OutEvent
  /-- The responses given since reset, oldest first (30_encoding.md R95; log 3). -/
  responses : List Response
  /-- What the host will present, next first (log 2). -/
  inputs : List HostInput
  deriving DecidableEq, Repr

/-- Stops of the model itself, in states no run from reset reaches; the faults the spec describes are next states. -/
inductive Fault where
  /-- Raised by PUSH, STEP and RDREG of a ring slot when RING does not have the slot: its length is not W, or CURSOR is
  not below W. "An index outside the range is an error" (20_memory.md R60). Safe: the model stops. Log 6. -/
  | ringAbsent
  /-- Raised by TICK, STEP, the pixel commands and RDREG of a pixel when PIX does not have NPIX pixels
  (20_memory.md R60). Safe: the model stops. Log 6. -/
  | pixelsAbsent
  deriving DecidableEq, Repr

/-- Reasons a step gives an instruction no meaning. -/
inductive Refusal where
  /-- Raised by an arm of exec whose instruction has no meaning yet: none is left. Safe: the model stops. -/
  | notModelled (mnemonic : String)
  deriving DecidableEq, Repr

/-- The state after reset of a block with configuration `c` (10_state.md R51), with no input pending. -/
def State.resetWith (c : Cfg) : State where
  cfg := c
  ring := List.replicate c.w 0
  cursor := 0
  smoothed := 0
  offset := 0
  calDone := false
  calActive := false
  calAcc := 0
  calRemain := 0
  calCount := 0
  detState := .idle
  actTime := 0
  deactTime := 0
  debPending := false
  amplitude := 0
  pix := List.replicate c.npix Colour.black
  frames := 0
  statusLed := false
  indLed := false
  duty := 0
  faulted := false
  faultCode := 0
  faultOp := 0
  faultInfo := 0
  out := []
  responses := []
  inputs := []

/-- The reference deployment right after reset (10_state.md R51; log 4). -/
def State.reset : State := State.resetWith Config.reference

end Sys2Proof.Machine
end

