-- ==== Sys2Proof/Machine/Operands.lean ====
section
/-! DEFINITION. The operands of a command as the checks and effects read them (30_encoding.md R84, R96), and the numeric
forms of colours, responses and fault kinds. -/

namespace Sys2Proof.Machine

/-- The `raw` operand, for the commands that carry a sample. -/
def sampleOf : Instr → Option Half
  | .calSample _ raw => some raw
  | .push _ raw => some raw
  | .step _ raw _ => some raw
  | .nop => none
  | .calStart _ => none
  | .tick _ => none
  | .pixSet _ _ _ _ => none
  | .pixClear => none
  | .pixFlush => none
  | .rdreg _ => none

/-- The E flag of the commands that carry a sample; the others have none (R82). -/
def errOf : Instr → Bool
  | .calSample err _ => err
  | .push err _ => err
  | .step err _ _ => err
  | .nop => false
  | .calStart _ => false
  | .tick _ => false
  | .pixSet _ _ _ _ => false
  | .pixClear => false
  | .pixFlush => false
  | .rdreg _ => false

/-- The `count` operand of CAL_START. -/
def countOf : Instr → Option Half
  | .calStart count => some count
  | .nop => none
  | .calSample _ _ => none
  | .push _ _ => none
  | .tick _ => none
  | .step _ _ _ => none
  | .pixSet _ _ _ _ => none
  | .pixClear => none
  | .pixFlush => none
  | .rdreg _ => none

/-- The `index` operand of PIX_SET. -/
def indexOf : Instr → Option Byte
  | .pixSet index _ _ _ => some index
  | .nop => none
  | .calStart _ => none
  | .calSample _ _ => none
  | .push _ _ => none
  | .tick _ => none
  | .step _ _ _ => none
  | .pixClear => none
  | .pixFlush => none
  | .rdreg _ => none

/-- pack(r, g, b) = {0x00, r, g, b} (00_scope.md R14). -/
def pack (c : Colour) : Word := 0#8 ++ c.r ++ c.g ++ c.b

/-- The channel bytes of a pixel in wire order: green, red, blue (20_memory.md R61). -/
def wireBytes (c : Colour) : List Byte := [c.g, c.r, c.b]

/-- The encoding Idle = 0, Active = 1 (10_state.md R31). -/
def DetState.bit : DetState → Bool
  | .idle => false
  | .active => true

/-- The 2-bit RC of a response code (30_encoding.md R95). -/
def RespCode.code : RespCode → BitVec 2
  | .ok => 0
  | .fault => 1
  | .ignored => 2
  | .badreg => 3

/-- The fault codes of 60_exceptions.md R213. -/
def FaultKind.code : FaultKind → BitVec 8
  | .acquisitionFailure => 0x01
  | .indexOutOfRange => 0x02
  | .illegalCommand => 0x03
  | .notCalibrated => 0x04
  | .recalibration => 0x05
  | .calCountZero => 0x06
  | .calSequence => 0x07

end Sys2Proof.Machine
end

