-- ==== Sys2Proof/Machine/Flags.lean ====
section
/-! DEFINITION. The conditions and status words computed from the state: elapsed time, the amplitude, the debounce gate,
the hold condition, the STATUS and FAULT registers, the FAULT_OUT line. -/

namespace Sys2Proof.Machine

/-- elapsed(a, b) = (a − b) mod 2^32 (00_scope.md R13). -/
abbrev elapsed (a b : Word) : Word := a - b

/-- The amplitude floor(|SMOOTHED − OFFSET| · GAIN_NUM / GAIN_DEN), computed exactly (41_detection.md R131). -/
def amplitudeOf (s : State) : Nat :=
  ((s.smoothed.toNat : Int) - (s.offset.toNat : Int)).natAbs * s.cfg.gainNum / s.cfg.gainDen

/-- gate_open(now), the value it returns (41_detection.md R132). -/
def gateOpen (s : State) (now : Word) : Bool :=
  !s.debPending || decide (s.cfg.debounce ≤ (elapsed now s.deactTime).toNat)

/-- The hold condition elapsed(now, ACT_TIME) ≥ HOLD (41_detection.md R133, step 5). -/
def held (s : State) (now : Word) : Bool :=
  decide (s.cfg.hold ≤ (elapsed now s.actTime).toNat)

/-- The STATUS register (10_state.md R44). -/
def statusWord (s : State) : Word :=
  0#22 ++ BitVec.ofBool s.indLed ++ BitVec.ofBool s.statusLed ++ 0#3 ++ BitVec.ofBool s.faulted ++
    BitVec.ofBool s.debPending ++ BitVec.ofBool s.calActive ++ BitVec.ofBool s.calDone ++ BitVec.ofBool s.detState.bit

/-- {INFO, 0000, OP, CODE}: the image of the FAULT register (10_state.md R45; 60_exceptions.md R210). -/
def faultImage (code : BitVec 8) (op : BitVec 4) (info : Half) : Word := info ++ 0#4 ++ op ++ code

/-- The output line FAULT_OUT "carries FAULTED's value at all times" (10_state.md R42). -/
def faultOut (s : State) : Bool := s.faulted

end Sys2Proof.Machine
end

