-- ==== Sys2Proof/Machine/Ops.lean ====
section
/-! DEFINITION. The shared operations: responses and events, the fault checks and fault entry, the Sample Smoother, the
Pixel Buffer, the Detection State Machine, and the execution cycle every command goes through. -/

namespace Sys2Proof.Machine

/-- What a step or a meaning answers. -/
abbrev Result := Host.Outcome State Fault Refusal

/-! ## Responses and events -/

/-- respond(rc, data) (30_encoding.md R95). -/
def State.respond (s : State) (rc : RespCode) (data : Word) : State :=
  { s with responses := s.responses ++ [⟨rc, data⟩] }

/-- emit e: OUT with the event appended (00_scope.md R12). -/
def emit (s : State) (e : OutEvent) : List OutEvent := s.out ++ [e]

/-! ## Fault checks and fault entry (30_encoding.md R96; 60_exceptions.md R210 to R216) -/

/-- A command that executes while CAL_ACTIVE = 1 (60_exceptions.md R214). -/
def runsInCalibration (i : Instr) : Bool :=
  i.op = .calSample ∨ i.op = .nop ∨ i.op = .rdreg

/-- The first fault that applies to the command, with its info: the checks of 30_encoding.md R96 in the priority order
of 60_exceptions.md R216. The decoder has refused a sample out of range before; a command that carries one all the same
faults as the command's own rule says (40_smoother.md R114, R120; 41_detection.md R142). DEDUCED, log 7. -/
def faultOf (i : Instr) (s : State) : Option (FaultKind × Half) :=
  if (sampleOf i).any fun raw => decide (2 ^ s.cfg.sw ≤ raw.toNat) then
    some (.illegalCommand, IllegalWord.info .sampleOutOfRange)
  else if s.calActive ∧ !runsInCalibration i then some (.calSequence, 1)
  else if !s.calActive ∧ i.op = .calSample then some (.calSequence, 2)
  else if i.op = .calStart ∧ s.calDone then some (.recalibration, 0)
  else if countOf i = some 0 then some (.calCountZero, 0)
  else if (i.op = .tick ∨ i.op = .step) ∧ !s.calDone then some (.notCalibrated, 0)
  else if errOf i then some (.acquisitionFailure, 0)
  else match indexOf i with
    | some index => if s.cfg.npix ≤ index.toNat then some (.indexOutOfRange, index.setWidth 16) else none
    | none => none

/-- raise F(info), for a faulting word whose OP field is `op`: taking a fault (60_exceptions.md R210). Nothing returns
from it but reset (R221). -/
def raiseFault (s : State) (f : FaultKind) (op : BitVec 4) (info : Half) : State :=
  { s with
    faulted := true
    faultCode := f.code
    faultOp := op
    faultInfo := info
    responses := s.responses ++ [⟨.fault, faultImage f.code op info⟩] }

/-- The execution cycle of a decoded command (30_encoding.md R96): while FAULTED only RDREG is performed; otherwise the
checks, then the command's own effect. -/
def issue (i : Instr) (perform : State → Result) (s : State) : Result :=
  if s.faulted ∧ i.op ≠ .rdreg then .next (s.respond .ignored 0)
  else match faultOf i s with
    | some (f, info) => .next (raiseFault s f i.op.code info)
    | none => perform s

/-- The execution cycle of a word that does not decode (30_encoding.md R86, R96). -/
def issueIllegal (why : IllegalWord) (op : BitVec 4) (s : State) : State :=
  if s.faulted then s.respond .ignored 0 else raiseFault s .illegalCommand op why.info

/-! ## Stores -/

/-- RING has its W slots and CURSOR is one of them (10_state.md R22, R23). -/
abbrev RingPresent (s : State) : Prop := s.ring.length = s.cfg.w ∧ s.cursor.toNat < s.cfg.w

/-- PIX has its NPIX pixels (10_state.md R36). -/
abbrev PixelsPresent (s : State) : Prop := s.pix.length = s.cfg.npix

/-- Go on where the ring is present (log 6). -/
def withRing (s : State) (k : State → Result) : Result :=
  if RingPresent s then k s else .fault .ringAbsent

/-- Go on where the pixels are present (log 6). -/
def withPixels (s : State) (k : State → Result) : Result :=
  if PixelsPresent s then k s else .fault .pixelsAbsent

/-! ## Sample Smoother (40_smoother.md) -/

/-- SUM = Σ RING[i] (10_state.md R24). -/
def ringSum (ring : List Half) : Nat := (ring.map BitVec.toNat).sum

/-- push(raw) (40_smoother.md R120). -/
def pushSample (s : State) (raw : Half) : State :=
  { s with
    ring := s.ring.set s.cursor.toNat raw
    cursor := BitVec.ofNat 8 ((s.cursor.toNat + 1) % s.cfg.w)
    smoothed := BitVec.ofNat 16 (ringSum (s.ring.set s.cursor.toNat raw) / s.cfg.w) }

/-- Begin calibration (40_smoother.md R112). -/
def startCalibration (s : State) (count : Half) : State :=
  { s with calCount := count, calRemain := count, calAcc := 0, calActive := true }

/-- complete_calibration() (40_smoother.md R115). -/
def completeCalibration (s : State) : State :=
  { s with
    offset := BitVec.ofNat 16 (s.calAcc.toNat / s.calCount.toNat)
    calActive := false
    calDone := true }

/-- One calibration sample (40_smoother.md R114). -/
def takeCalibrationSample (s : State) (raw : Half) : State :=
  let taken := { s with calAcc := s.calAcc + raw.setWidth 32, calRemain := s.calRemain - 1 }
  if taken.calRemain = 0 then completeCalibration taken else taken

/-! ## Pixel Buffer (42_pixel.md) -/

/-- set(index, r, g, b) (42_pixel.md R160). -/
def setPixel (s : State) (index : Nat) (c : Colour) : State :=
  { s with pix := s.pix.set index c }

/-- clear_all() (42_pixel.md R162). -/
def clearAll (s : State) : State :=
  { s with pix := List.replicate s.cfg.npix Colour.black }

/-- The bytes of a frame: pixel 0 first, each pixel green, red, blue (42_pixel.md R164). -/
def frameBytes (pix : List Colour) : List Byte := pix.flatMap wireBytes

/-- flush() (42_pixel.md R164). -/
def flush (s : State) : State :=
  { s with frames := s.frames + 1, out := emit s (.frame (frameBytes s.pix)) }

/-- The pixels once the entries of a pattern table are set in table order (42_pixel.md R166). -/
def paint (pix : List Colour) (table : List PatternEntry) : List Colour :=
  table.foldl (fun p e => p.set e.index e.colour) pix

/-- Set every entry of a pattern table (42_pixel.md R166). -/
def setEntries (s : State) (table : List PatternEntry) : State := { s with pix := paint s.pix table }

/-- render(P): set every entry, then flush (42_pixel.md R166). -/
def render (s : State) (table : List PatternEntry) : State := flush (setEntries s table)

/-! ## Output lines (10_state.md R39, R40; 41_detection.md R147) -/

/-- STATUS_LED <- v; emit StatusLed(v). -/
def setStatusLed (s : State) (v : Bool) : State := { s with statusLed := v, out := emit s (.statusLed v) }

/-- IND_LED <- v; emit IndLed(v). -/
def setIndLed (s : State) (v : Bool) : State := { s with indLed := v, out := emit s (.indLed v) }

/-- DUTY <- v; emit Duty(v). -/
def setDuty (s : State) (v : Word) : State := { s with duty := v, out := emit s (.duty v) }

/-- on(): the tone at TONE_LEVEL (41_detection.md R147). -/
def toneOn (s : State) : State := setDuty s (BitVec.ofNat 32 s.cfg.toneLevel)

/-- off(): the tone at level 0 (41_detection.md R147). -/
def toneOff (s : State) : State := setDuty s 0

/-! ## Detection State Machine (41_detection.md) -/

/-- The state's own registers on the Idle → Active edge (41_detection.md R136). -/
def setActive (s : State) (now : Word) : State := { s with detState := .active, actTime := now }

/-- The state's own registers on the Active → Idle edge (41_detection.md R137). -/
def setIdle (s : State) (now : Word) : State :=
  { s with detState := .idle, deactTime := now, debPending := true }

/-- activate(now), the Idle → Active edge (41_detection.md R136). -/
def activate (s : State) (now : Word) : State :=
  toneOn (render (setIndLed (setStatusLed (setActive s now) true) false) s.cfg.alarm)

/-- deactivate(now), the Active → Idle edge (41_detection.md R137). -/
def deactivate (s : State) (now : Word) : State :=
  setIdle (toneOff (flush (clearAll (setStatusLed (setIndLed s false) true)))) now

/-- Step 1 of a tick: the amplitude is written on every tick (41_detection.md R131, R133). -/
def writeAmplitude (s : State) : State := { s with amplitude := BitVec.ofNat 32 (amplitudeOf s) }

/-- Step 2 of a tick: an open gate clears DEB_PENDING (41_detection.md R132). -/
def settleGate (s : State) (now : Word) : State :=
  if gateOpen s now then { s with debPending := false } else s

/-- Steps 3 and 4 of a tick, with the gate and the amplitude found in steps 1 and 2 (41_detection.md R133). -/
def idleStep (s : State) (gate : Bool) (amp : Nat) (now : Word) : State :=
  if s.detState = .idle ∧ gate then
    if s.cfg.threshold < amp then activate s now else render s s.cfg.idle
  else s

/-- Step 5 of a tick (41_detection.md R133). -/
def holdStep (s : State) (now : Word) : State :=
  if s.detState = .active ∧ held s now then deactivate s now else s

/-- tick(now): steps 1 to 5, each on the state the earlier ones left (41_detection.md R133). -/
def tickState (s : State) (now : Word) : State :=
  holdStep (idleStep (settleGate (writeAmplitude s) now) (gateOpen s now) (amplitudeOf s) now) now

end Sys2Proof.Machine
end

