-- ==== Sys2Proof/Machine/Registers.lean ====
section
/-! DEFINITION. The register address space RDREG reads (10_state.md R43 to R50). -/

namespace Sys2Proof.Machine

/-- The mapped registers. -/
inductive Reg where
  | status | fault
  | offset | smoothed | amplitude | actTime | deactTime | cursor | calAcc | calRemain | calCount | duty | frames
  | cfgW | cfgNpix | cfgSw | cfgGainNum | cfgGainDen | cfgThreshold | cfgDebounce | cfgHold | cfgToneLevel
  | ringSlot (i : Nat)
  | pixel (i : Nat)
  deriving DecidableEq, Repr

/-- The addresses of R44 to R47. -/
def scalarMap : List (Nat × Reg) :=
  [ (0x0000, .status), (0x0001, .fault), (0x0002, .offset), (0x0003, .smoothed), (0x0004, .amplitude),
    (0x0005, .actTime), (0x0006, .deactTime), (0x0007, .cursor), (0x0008, .calAcc), (0x0009, .calRemain),
    (0x000A, .calCount), (0x000B, .duty), (0x000C, .frames),
    (0x0010, .cfgW), (0x0011, .cfgNpix), (0x0012, .cfgSw), (0x0013, .cfgGainNum), (0x0014, .cfgGainDen),
    (0x0015, .cfgThreshold), (0x0016, .cfgDebounce), (0x0017, .cfgHold), (0x0018, .cfgToneLevel) ]

/-- The register at an address: R44 to R47, ring slots at 0x0100 + i (R48), pixels at 0x0200 + i (R49); none at an
unmapped address (R50). -/
def regAt (c : Cfg) (addr : Half) : Option Reg :=
  let a := addr.toNat
  if a < 0x0100 then scalarMap.lookup a
  else if a < 0x0200 then (if a - 0x0100 < c.w then some (.ringSlot (a - 0x0100)) else none)
  else if a - 0x0200 < c.npix then some (.pixel (a - 0x0200)) else none

/-- The 32-bit word a register reads, unused bits 0 (R43). A ring slot or pixel that the stores do not have stops the
model (log 6). -/
def readReg (s : State) : Reg → Except Fault Word
  | .status => .ok (statusWord s)
  | .fault => .ok (faultImage s.faultCode s.faultOp s.faultInfo)
  | .offset => .ok (s.offset.setWidth 32)
  | .smoothed => .ok (s.smoothed.setWidth 32)
  | .amplitude => .ok s.amplitude
  | .actTime => .ok s.actTime
  | .deactTime => .ok s.deactTime
  | .cursor => .ok (s.cursor.setWidth 32)
  | .calAcc => .ok s.calAcc
  | .calRemain => .ok (s.calRemain.setWidth 32)
  | .calCount => .ok (s.calCount.setWidth 32)
  | .duty => .ok s.duty
  | .frames => .ok s.frames
  | .cfgW => .ok (BitVec.ofNat 32 s.cfg.w)
  | .cfgNpix => .ok (BitVec.ofNat 32 s.cfg.npix)
  | .cfgSw => .ok (BitVec.ofNat 32 s.cfg.sw)
  | .cfgGainNum => .ok (BitVec.ofNat 32 s.cfg.gainNum)
  | .cfgGainDen => .ok (BitVec.ofNat 32 s.cfg.gainDen)
  | .cfgThreshold => .ok (BitVec.ofNat 32 s.cfg.threshold)
  | .cfgDebounce => .ok (BitVec.ofNat 32 s.cfg.debounce)
  | .cfgHold => .ok (BitVec.ofNat 32 s.cfg.hold)
  | .cfgToneLevel => .ok (BitVec.ofNat 32 s.cfg.toneLevel)
  | .ringSlot i => match s.ring[i]? with
    | some v => .ok (v.setWidth 32)
    | none => .error .ringAbsent
  | .pixel i => match s.pix[i]? with
    | some c => .ok (pack c)
    | none => .error .pixelsAbsent

end Sys2Proof.Machine
end

