-- ==== Sys2Proof/Machine/Control.lean ====
section
/-! DEFINITION. The control commands: NOP, RDREG (43_control.md). -/

namespace Sys2Proof.Machine

/-- NOP (R180). -/
def execNop (s : State) : Result :=
  issue .nop (fun s => .next (s.respond .ok 0)) s

/-- RDREG (R182): the register, or BADREG at an unmapped address. It runs while FAULTED (60_exceptions.md R212). -/
def execRdreg (addr : Half) (s : State) : Result :=
  issue (.rdreg addr)
    (fun s =>
      match regAt s.cfg addr with
      | none => .next (s.respond .badreg 0)
      | some r =>
        match readReg s r with
        | .ok v => .next (s.respond .ok v)
        | .error f => .fault f) s

end Sys2Proof.Machine
end

