-- ==== Sys2Proof/Machine/Detection.lean ====
section
/-! DEFINITION. The Detection State Machine commands: TICK, STEP (41_detection.md). -/

namespace Sys2Proof.Machine

/-- TICK (R140): the response is the amplitude. -/
def execTick (now : Word) (s : State) : Result :=
  issue (.tick now)
    (fun s => withPixels s fun s =>
      let t := tickState s now
      .next (t.respond .ok t.amplitude)) s

/-- STEP (R142): push, then tick on the SMOOTHED just written; the response is the amplitude. -/
def execStep (err : Bool) (raw : Half) (now : Word) (s : State) : Result :=
  issue (.step err raw now)
    (fun s => withRing s fun s => withPixels s fun s =>
      let t := tickState (pushSample s raw) now
      .next (t.respond .ok t.amplitude)) s

end Sys2Proof.Machine
end

