-- ==== Sys2Proof/Machine/Pixel.lean ====
section
/-! DEFINITION. The Pixel Buffer commands: PIX_SET, PIX_CLEAR, PIX_FLUSH (42_pixel.md). -/

namespace Sys2Proof.Machine

/-- PIX_SET (R160). -/
def execPixSet (index r g b : Byte) (s : State) : Result :=
  issue (.pixSet index r g b)
    (fun s => withPixels s fun s => .next ((setPixel s index.toNat ⟨r, g, b⟩).respond .ok 0)) s

/-- PIX_CLEAR (R162). -/
def execPixClear (s : State) : Result :=
  issue .pixClear (fun s => withPixels s fun s => .next ((clearAll s).respond .ok 0)) s

/-- PIX_FLUSH (R164). -/
def execPixFlush (s : State) : Result :=
  issue .pixFlush (fun s => withPixels s fun s => .next ((flush s).respond .ok 0)) s

end Sys2Proof.Machine
end

