-- ==== Sys2Proof/Machine/Smoother.lean ====
section
/-! DEFINITION. The Sample Smoother commands: CAL_START, CAL_SAMPLE, PUSH (40_smoother.md). -/

namespace Sys2Proof.Machine

/-- CAL_START (R112). -/
def execCalStart (count : Half) (s : State) : Result :=
  issue (.calStart count) (fun s => .next ((startCalibration s count).respond .ok 0)) s

/-- CAL_SAMPLE (R114): the response is OFFSET after the command. -/
def execCalSample (err : Bool) (raw : Half) (s : State) : Result :=
  issue (.calSample err raw)
    (fun s =>
      let t := takeCalibrationSample s raw
      .next (t.respond .ok (t.offset.setWidth 32))) s

/-- PUSH (R120): the response is the running average. -/
def execPush (err : Bool) (raw : Half) (s : State) : Result :=
  issue (.push err raw)
    (fun s => withRing s fun s =>
      let t := pushSample s raw
      .next (t.respond .ok (t.smoothed.setWidth 32))) s

end Sys2Proof.Machine
end

