-- ==== Sys2Proof/Machine/Dispatch.lean ====
section
/-! DEFINITION. exec: one arm per command of the opcode table (30_encoding.md R83). -/

namespace Sys2Proof.Machine

def exec (i : Instr) (s : State) : Host.Outcome State Fault Refusal :=
  match i with
  | .nop => Sys2Proof.Machine.execNop s
  | .calStart count => Sys2Proof.Machine.execCalStart count s
  | .calSample err raw => Sys2Proof.Machine.execCalSample err raw s
  | .push err raw => Sys2Proof.Machine.execPush err raw s
  | .tick now => Sys2Proof.Machine.execTick now s
  | .step err raw now => Sys2Proof.Machine.execStep err raw now s
  | .pixSet index r g b => Sys2Proof.Machine.execPixSet index r g b s
  | .pixClear => Sys2Proof.Machine.execPixClear s
  | .pixFlush => Sys2Proof.Machine.execPixFlush s
  | .rdreg addr => Sys2Proof.Machine.execRdreg addr s

end Sys2Proof.Machine
end

