-- ==== Sys2Proof/Machine/Fetch.lean ====
section
/-! DEFINITION. Taking the host's next input: the block holds no program (10_state.md R21); the host presents a command
word, or asserts reset, or presents nothing. -/

namespace Sys2Proof.Machine

/-- What the block does next. -/
inductive Pending where
  /-- No input: the block waits, holding its state (60_exceptions.md R230; 70_reset_and_hazards.md R241). -/
  | wait
  /-- The reset input is asserted. -/
  | reset
  /-- A command word that decodes. -/
  | run (i : Instr)
  /-- A command word that does not decode, with its OP field. -/
  | illegal (why : IllegalWord) (op : BitVec 4)
  deriving DecidableEq, Repr

/-- The host's next input, decoded (30_encoding.md R80, R85, R96). -/
def pending (s : State) : Pending :=
  match s.inputs with
  | [] => .wait
  | .reset :: _ => .reset
  | .command cw :: _ =>
    match decode s.cfg.sw cw with
    | .cmd i => .run i
    | .illegal why => .illegal why (fieldOp cw)

/-- The state once the next input is taken. -/
def takeInput (s : State) : State := { s with inputs := s.inputs.tail }

/-- Reset (70_reset_and_hazards.md R240): every register takes its reset value, OUT and the responses start anew, and
what the host presents afterwards is kept (log 2, log 3). -/
def resetBlock (s : State) : State := { State.resetWith s.cfg with inputs := s.inputs }

/-- A command word put before everything the host has yet to present. -/
def presentWord (s : State) (cw : CmdWord) : State := { s with inputs := .command cw :: s.inputs }

end Sys2Proof.Machine
end

