-- ==== Sys2Proof/Machine/Step.lean ====
section
/-! DEFINITION. One step: the host's next input, completely and atomically (00_scope.md R3). -/

namespace Sys2Proof.Machine

/-- One step of the block (00_scope.md R3, R4; 30_encoding.md R96). With no input it waits. -/
def step (s : State) : Host.Outcome State Fault Refusal :=
  match pending s with
  | .wait => .next s
  | .reset => .next (resetBlock (takeInput s))
  | .run i => exec i (takeInput s)
  | .illegal why op => .next (issueIllegal why op (takeInput s))

/-- The word `w` presented as the next command (log 2). -/
def State.withFetchWord (s : State) (nbits w : Nat) : State := presentWord s (BitVec.ofNat 64 (w % 2 ^ nbits))

end Sys2Proof.Machine
end

