-- ==== Sys2Proof/Safety.lean ====
section
/-! DEFINITION. What claims about the block are stated in: the invariants of 10_state.md R52 and of the output trace, when
a command is admitted, and runs of several steps. -/

namespace Sys2Proof.Machine

/-! ## Invariants at command boundaries -/

/-- The stores have the slots `cfg` gives them (10_state.md R22, R23, R36). -/
structure StoresOk (s : State) : Prop where
  ring_length : s.ring.length = s.cfg.w
  cursor_lt : s.cursor.toNat < s.cfg.w
  pix_length : s.pix.length = s.cfg.npix

/-- Samples fit in SW bits and SMOOTHED is the truncated mean of the ring (10_state.md R22, R24). -/
structure SmootherOk (s : State) : Prop where
  ring_lt : ∀ v ∈ s.ring, v.toNat < 2 ^ s.cfg.sw
  smoothed_eq : s.smoothed.toNat = ringSum s.ring / s.cfg.w

/-- The calibration registers (10_state.md R25 to R30). -/
structure CalibrationOk (s : State) : Prop where
  not_both : ¬(s.calActive = true ∧ s.calDone = true)
  remain_le : s.calRemain.toNat ≤ s.calCount.toNat
  acc_le : s.calAcc.toNat ≤ (s.calCount.toNat - s.calRemain.toNat) * (2 ^ s.cfg.sw - 1)
  active_remain : s.calActive = true → 1 ≤ s.calRemain.toNat
  done_remain : s.calDone = true → s.calRemain = 0 ∧ 1 ≤ s.calCount.toNat
  done_offset : s.calDone = true → s.offset.toNat = s.calAcc.toNat / s.calCount.toNat
  cold_offset : s.calDone = false → s.offset = 0

/-- The Detection State and the outputs it drives (10_state.md R39, R40, R52; 41_detection.md R134, R138). -/
structure DetectionOk (s : State) : Prop where
  active_duty : s.detState = .active → s.duty = BitVec.ofNat 32 s.cfg.toneLevel
  idle_duty : s.detState = .idle → s.duty = 0
  active_gate : s.detState = .active → s.debPending = false
  active_led : s.detState = .active → s.statusLed = true
  pending_led : s.debPending = true → s.statusLed = true
  ind_led : s.indLed = false

/-- The fault registers (10_state.md R42). -/
structure FaultOk (s : State) : Prop where
  code_iff : s.faulted = true ↔ s.faultCode ≠ 0
  clear : s.faulted = false → s.faultOp = 0 ∧ s.faultInfo = 0

/-- The level a port was last written to, from the oldest event on; `level` picks the port's writes out of the trace. -/
def lastLevel {α : Type} (level : OutEvent → Option α) (start : α) (out : List OutEvent) : α :=
  out.foldl (fun v e => (level e).getD v) start

/-- The writes of the status-LED line. -/
def statusLevel : OutEvent → Option Bool
  | .statusLed v => some v
  | .frame _ => none
  | .indLed _ => none
  | .duty _ => none

/-- The writes of the indicator-LED line. -/
def indLevel : OutEvent → Option Bool
  | .indLed v => some v
  | .frame _ => none
  | .statusLed _ => none
  | .duty _ => none

/-- The writes of the duty-cycle output. -/
def dutyLevel : OutEvent → Option Word
  | .duty v => some v
  | .frame _ => none
  | .statusLed _ => none
  | .indLed _ => none

/-- A flush. -/
def isFrame : OutEvent → Bool
  | .frame _ => true
  | .statusLed _ => false
  | .indLed _ => false
  | .duty _ => false

/-- A frame of a block with `npix` pixels has 3·NPIX bytes (42_pixel.md R165). -/
def frameSizeOk (npix : Nat) : OutEvent → Bool
  | .frame bytes => decide (bytes.length = 3 * npix)
  | .statusLed _ => true
  | .indLed _ => true
  | .duty _ => true

/-- A write that no rule makes: IND_LED driven to 1, or STATUS_LED to 0 (41_detection.md R138). -/
def drivesWrong : OutEvent → Bool
  | .statusLed v => !v
  | .indLed v => v
  | .frame _ => false
  | .duty _ => false

/-- Every port register is what the trace last wrote to the port, FRAMES counts the frames modulo 2^32, every frame has
3·NPIX bytes, IND_LED is never driven to 1 nor STATUS_LED to 0, and once an activation or a deactivation has happened
(each writes ports other than the frames) STATUS_LED = 1 and IND_LED = 0 (10_state.md R37 to R40, R52 item 7;
41_detection.md R138; 42_pixel.md R164, R165). -/
structure TraceOk (s : State) : Prop where
  status_eq : s.statusLed = lastLevel statusLevel false s.out
  ind_eq : s.indLed = lastLevel indLevel false s.out
  duty_eq : s.duty = lastLevel dutyLevel 0 s.out
  frames_eq : s.frames = BitVec.ofNat 32 (s.out.countP isFrame)
  frame_length : ∀ e ∈ s.out, frameSizeOk s.cfg.npix e = true
  never_wrong : ∀ e ∈ s.out, drivesWrong e = false
  after_edge : (∃ e ∈ s.out, isFrame e = false) → s.statusLed = true ∧ s.indLed = false

/-- The invariants of the block at every command boundary (10_state.md R52 and the parts above). -/
structure Inv (s : State) : Prop where
  stores : StoresOk s
  smoother : SmootherOk s
  calibration : CalibrationOk s
  detection : DetectionOk s
  fault : FaultOk s
  trace : TraceOk s

/-! ## Commands and runs -/

/-- The first fault that applies to a command word, code and info, in the priority order of 60_exceptions.md R216, read
off the word's fields and the state as the table of R213 gives the conditions. -/
def firstFault (s : State) (cw : CmdWord) : Option (BitVec 8 × Half) :=
  let op := (cw >>> 60).toNat
  let e := cw.getLsbD 59
  let i : Byte := (cw >>> 48).setWidth 8
  let smp : Half := (cw >>> 32).setWidth 16
  match decode s.cfg.sw cw with
  | .illegal .undefinedOpcode => some (0x03, 1)
  | .illegal .reservedBitSet => some (0x03, 2)
  | .illegal .sampleOutOfRange => some (0x03, 3)
  | .cmd _ =>
    if s.calActive = true ∧ op ≠ 0x0 ∧ op ≠ 0x2 ∧ op ≠ 0x9 then some (0x07, 1)
    else if s.calActive = false ∧ op = 0x2 then some (0x07, 2)
    else if op = 0x1 ∧ s.calDone = true then some (0x05, 0)
    else if op = 0x1 ∧ smp = 0 then some (0x06, 0)
    else if (op = 0x4 ∨ op = 0x5) ∧ s.calDone = false then some (0x04, 0)
    else if (op = 0x2 ∨ op = 0x3 ∨ op = 0x5) ∧ e = true then some (0x01, 0)
    else if op = 0x6 ∧ s.cfg.npix ≤ i.toNat then some (0x02, i.setWidth 16)
    else none

/-- No check of 30_encoding.md R96 stops a TICK, and the pixels are there. -/
structure TickAdmitted (s : State) : Prop where
  not_faulted : s.faulted = false
  not_calibrating : s.calActive = false
  calibrated : s.calDone = true
  pixels : PixelsPresent s

/-- The commands that evaluate the Detection State Machine at `now` with no acquisition failure (00_scope.md R15,
"Tick"). -/
def ticksAt (now : Word) : Instr → Bool
  | .tick n => decide (n = now)
  | .step err _ n => !err && decide (n = now)
  | .nop => false
  | .calStart _ => false
  | .calSample _ _ => false
  | .push _ _ => false
  | .pixSet _ _ _ _ => false
  | .pixClear => false
  | .pixFlush => false
  | .rdreg _ => false

/-- An event with the bytes of a frame left out: what the event is, and the level it writes. -/
def OutEvent.withoutBytes : OutEvent → OutEvent
  | .frame _ => .frame []
  | .statusLed v => .statusLed v
  | .indLed v => .indLed v
  | .duty v => .duty v

/-- The commands of a stream as the host presents them (30_encoding.md R80). -/
def stream (is : List Instr) : List HostInput := is.map fun i => .command (encode i)

/-- `k` steps of the machine. -/
abbrev run (k : Nat) (s : State) : Result := Host.Core.run Sys2Proof.core k s

end Sys2Proof.Machine
end

