-- ==== Sys2Proof/Certificates/Slice0/Obligations.lean ====
section
/-! DEFINITION. The statements for the provers, by the spec's files: encoding, step, faults, smoother, detection, pixels,
registers, frames, invariants. A full equation `exec i s = .next { s with … }` says what the command writes, what it
leaves unchanged, and that it completes. -/

open Sys2Proof Sys2Proof.Machine

/-! ## Encoding (30_encoding.md) -/

/-- Decoding the word of any command with legal operands gives the command back (30_encoding.md sections 2 to 4). -/
def Obligations.DecodeOfEncodeIsSelf : Prop :=
  ∀ (sw : Nat) (i : Instr), i.wellFormed sw = true → decode sw (encode i) = .cmd i

/-- A word that decodes is the one word of its command, and its sample is in range (30_encoding.md sections 2 to 4). -/
def Obligations.EncodeOfDecodeIsSelf : Prop :=
  ∀ (sw : Nat) (cw : CmdWord) (i : Instr), decode sw cw = .cmd i → encode i = cw ∧ i.wellFormed sw = true

/-- 30_encoding.md R85: the order of the three refusals with their numbers, and the operands of a command, written with
the matches and masks of the opcode map. -/
def Obligations.DecodeTestsOpcodeThenReservedThenSample : Prop :=
  (IllegalWord.info .undefinedOpcode = 1 ∧ IllegalWord.info .reservedBitSet = 2 ∧
    IllegalWord.info .sampleOutOfRange = 3) ∧
  ∀ (sw : Nat) (cw : CmdWord),
    let op := (cw >>> 60).toNat
    let e := cw.getLsbD 59
    let i : Byte := (cw >>> 48).setWidth 8
    let smp : Half := (cw >>> 32).setWidth 16
    let t : Word := cw.setWidth 32
    decode sw cw =
      if 0xA ≤ op then .illegal .undefinedOpcode
      else if (op = 0x0 ∧ cw &&& 0xFFFFFFFFFFFFFFFF ≠ 0x0000000000000000) ∨
          (op = 0x1 ∧ cw &&& 0xFFFF0000FFFFFFFF ≠ 0x1000000000000000) ∨
          (op = 0x2 ∧ cw &&& 0xF7FF0000FFFFFFFF ≠ 0x2000000000000000) ∨
          (op = 0x3 ∧ cw &&& 0xF7FF0000FFFFFFFF ≠ 0x3000000000000000) ∨
          (op = 0x4 ∧ cw &&& 0xFFFFFFFF00000000 ≠ 0x4000000000000000) ∨
          (op = 0x5 ∧ cw &&& 0xF7FF000000000000 ≠ 0x5000000000000000) ∨
          (op = 0x6 ∧ cw &&& 0xFF00FFFFFF000000 ≠ 0x6000000000000000) ∨
          (op = 0x7 ∧ cw &&& 0xFFFFFFFFFFFFFFFF ≠ 0x7000000000000000) ∨
          (op = 0x8 ∧ cw &&& 0xFFFFFFFFFFFFFFFF ≠ 0x8000000000000000) ∨
          (op = 0x9 ∧ cw &&& 0xFFFF0000FFFFFFFF ≠ 0x9000000000000000) then .illegal .reservedBitSet
      else if (op = 0x2 ∨ op = 0x3 ∨ op = 0x5) ∧ 2 ^ sw ≤ smp.toNat then .illegal .sampleOutOfRange
      else .cmd (
        if op = 0x0 then .nop
        else if op = 0x1 then .calStart smp
        else if op = 0x2 then .calSample e smp
        else if op = 0x3 then .push e smp
        else if op = 0x4 then .tick t
        else if op = 0x5 then .step e smp t
        else if op = 0x6 then .pixSet i ((t >>> 16).setWidth 8) ((t >>> 8).setWidth 8) (t.setWidth 8)
        else if op = 0x7 then .pixClear
        else if op = 0x8 then .pixFlush
        else .rdreg smp)

/-- The encoding examples of 30_encoding.md section 6: each word is the encoding of its command and decodes to it, with
12-bit samples. -/
def Obligations.SpecExampleWordsDecode : Prop :=
  ∀ p ∈ ([ (0x0000000000000000#64, Instr.nop), (0x1000001000000000#64, .calStart 16),
      (0x2000080000000000#64, .calSample false 2048), (0x2800080000000000#64, .calSample true 2048),
      (0x30000FFF00000000#64, .push false 4095), (0x4000000000000064#64, .tick 100),
      (0x5000082A0000012C#64, .step false 2090 300), (0x600C000000FF0000#64, .pixSet 12 255 0 0),
      (0x7000000000000000#64, .pixClear), (0x8000000000000000#64, .pixFlush),
      (0x9000000200000000#64, .rdreg 0x0002) ] : List (CmdWord × Instr)),
    decode 12 p.1 = .cmd p.2 ∧ encode p.2 = p.1

/-! ## The step (00_scope.md, 30_encoding.md section 5, 70_reset_and_hazards.md section 1) -/

/-- A step runs the command the host presents: it is exec of the decoded command, once the word is taken from the
host's inputs. -/
def Obligations.StepRunsDecodedCommand : Prop :=
  ∀ (s : State) (cw : CmdWord) (rest : List HostInput) (i : Instr),
    s.inputs = .command cw :: rest → decode s.cfg.sw cw = .cmd i →
    step s = exec i { s with inputs := rest }

/-- A word that does not decode is the fault ILLEGAL_COMMAND with its info, or is ignored by a faulted block
(30_encoding.md section 4). -/
def Obligations.StepOfIllegalWord : Prop :=
  ∀ (s : State) (cw : CmdWord) (rest : List HostInput) (why : IllegalWord),
    s.inputs = .command cw :: rest → decode s.cfg.sw cw = .illegal why →
    step s = .next (if s.faulted then
        { s with inputs := rest, responses := s.responses ++ [⟨.ignored, 0⟩] }
      else
        { s with
          inputs := rest
          faulted := true
          faultCode := 0x03
          faultOp := (cw >>> 60).setWidth 4
          faultInfo := why.info
          responses := s.responses ++ [⟨.fault, why.info ++ 0#4 ++ ((cw >>> 60).setWidth 4 : BitVec 4) ++ 0x03#8⟩] })

/-- With nothing presented the block waits and holds its state. The wait as a step is the model's choice (log 2). -/
def Obligations.NoInputWaits : Prop :=
  ∀ s : State, s.inputs = [] → step s = .next s

/-- 10_state.md R51, 70_reset_and_hazards.md R240: the reset input gives every piece of state its reset value, from any
state, with OUT empty. -/
def Obligations.ResetInputGivesResetState : Prop :=
  ∀ (s : State) (rest : List HostInput), s.inputs = .reset :: rest →
    ∃ t, step s = .next t ∧
      t.ring = List.replicate s.cfg.w 0 ∧ t.cursor = 0 ∧ t.smoothed = 0 ∧ t.offset = 0 ∧
      t.calDone = false ∧ t.calActive = false ∧ t.calAcc = 0 ∧ t.calRemain = 0 ∧ t.calCount = 0 ∧
      t.detState = .idle ∧ t.actTime = 0 ∧ t.deactTime = 0 ∧ t.debPending = false ∧ t.amplitude = 0 ∧
      t.pix = List.replicate s.cfg.npix ⟨0, 0, 0⟩ ∧ t.frames = 0 ∧
      t.statusLed = false ∧ t.indLed = false ∧ t.duty = 0 ∧
      t.faulted = false ∧ t.faultCode = 0 ∧ t.faultOp = 0 ∧ t.faultInfo = 0 ∧ t.out = [] ∧ t.cfg = s.cfg

/-! ## Faults (60_exceptions.md, 30_encoding.md section 5) -/

/-- 60_exceptions.md R210, R216: the first fault that applies to the command word, in the priority order, is the one
taken, fault entry writes the four fault registers and the response and nothing else, and an already-faulted block
reports nothing new. -/
def Obligations.FirstFaultIsTaken : Prop :=
  (∀ (s t : State) (cw : CmdWord) (rest : List HostInput), s.inputs = .command cw :: rest → s.faulted = true →
    step s = .next t →
    t.faulted = true ∧ t.faultCode = s.faultCode ∧ t.faultOp = s.faultOp ∧ t.faultInfo = s.faultInfo) ∧
  ∀ (s : State) (cw : CmdWord) (rest : List HostInput) (code : BitVec 8) (info : Half),
    s.inputs = .command cw :: rest → s.faulted = false →
    firstFault s cw = some (code, info) →
    ∃ t, step s = .next t ∧ faultOut t = true ∧
      t = { s with
        inputs := rest
        faulted := true
        faultCode := code
        faultOp := (cw >>> 60).setWidth 4
        faultInfo := info
        responses := s.responses ++ [⟨.fault, info ++ 0#4 ++ ((cw >>> 60).setWidth 4 : BitVec 4) ++ code⟩] }

/-- 60_exceptions.md R212: while FAULTED a word that decodes to RDREG executes, every other word is ignored, no second
fault is recorded, and only reset clears FAULTED. -/
def Obligations.FaultedBlockRunsOnlyRdreg : Prop :=
  ∀ s : State, s.faulted = true →
    (∀ (cw : CmdWord) (rest : List HostInput), s.inputs = .command cw :: rest →
      (∀ addr, decode s.cfg.sw cw = .cmd (.rdreg addr) →
        step s = exec (.rdreg addr) { s with inputs := rest } ∧
        (StoresOk s → ∃ r : Response, (r.rc = .ok ∨ r.rc = .badreg) ∧
          step s = .next { s with inputs := rest, responses := s.responses ++ [r] })) ∧
      ((∀ addr, decode s.cfg.sw cw ≠ .cmd (.rdreg addr)) →
        step s = .next { s with inputs := rest, responses := s.responses ++ [⟨.ignored, 0⟩] })) ∧
    (∀ rest, s.inputs = .reset :: rest → ∃ t, step s = .next t ∧ t.faulted = false) ∧
    (∀ t, step s = .next t → (∀ rest, s.inputs ≠ .reset :: rest) →
      t.faulted = true ∧ t.faultCode = s.faultCode ∧ t.faultOp = s.faultOp ∧ t.faultInfo = s.faultInfo)

/-- 60_exceptions.md R211: a command that faults leaves all state but the four fault registers as it was (and gives its
response), and emits nothing. -/
def Obligations.FaultsArePrecise : Prop :=
  ∀ s t : State, step s = .next t → s.faulted = false → t.faulted = true →
    t = { s with
      inputs := s.inputs.tail
      faulted := true
      faultCode := t.faultCode
      faultOp := t.faultOp
      faultInfo := t.faultInfo
      responses := t.responses }

/-- 60_exceptions.md R214: while CAL_ACTIVE only CAL_SAMPLE, NOP and RDREG are accepted and every other command faults
CAL_SEQUENCE with info 1; a CAL_SAMPLE outside calibration faults CAL_SEQUENCE with info 2. -/
def Obligations.CalibrationAdmitsOnlyItsCommands : Prop :=
  (∀ (s : State) (i : Instr), s.faulted = false → s.calActive = true → i.wellFormed s.cfg.sw = true →
    i.op ≠ .calSample → i.op ≠ .nop → i.op ≠ .rdreg →
    exec i s = .next { s with
      faulted := true
      faultCode := 0x07
      faultOp := i.op.code
      faultInfo := 1
      responses := s.responses ++ [⟨.fault, 1#16 ++ 0#4 ++ i.op.code ++ 0x07#8⟩] }) ∧
  (∀ (s : State) (i : Instr), s.faulted = false → s.calActive = true → i.wellFormed s.cfg.sw = true →
    StoresOk s → errOf i = false → (i.op = .calSample ∨ i.op = .nop ∨ i.op = .rdreg) →
    ∃ t, exec i s = .next t ∧ t.faulted = false) ∧
  (∀ (s : State) (err : Bool) (raw : Half), s.faulted = false → s.calActive = false → raw.toNat < 2 ^ s.cfg.sw →
    exec (.calSample err raw) s = .next { s with
      faulted := true
      faultCode := 0x07
      faultOp := 2
      faultInfo := 2
      responses := s.responses ++ [⟨.fault, 2#16 ++ 0#4 ++ 2#4 ++ 0x07#8⟩] })

/-- 60_exceptions.md R215: TICK and STEP fault NOT_CALIBRATED while CAL_DONE = 0; PUSH, PIX_SET, PIX_CLEAR, PIX_FLUSH,
NOP and RDREG need no calibration. -/
def Obligations.DetectionNeedsCalibration : Prop :=
  (∀ (s : State) (i : Instr), s.faulted = false → s.calActive = false → s.calDone = false →
    i.wellFormed s.cfg.sw = true → (i.op = .tick ∨ i.op = .step) →
    exec i s = .next { s with
      faulted := true
      faultCode := 0x04
      faultOp := i.op.code
      faultInfo := 0
      responses := s.responses ++ [⟨.fault, 0#16 ++ 0#4 ++ i.op.code ++ 0x04#8⟩] }) ∧
  (∀ (s : State) (i : Instr), s.faulted = false → s.calActive = false → s.calDone = false →
    i.wellFormed s.cfg.sw = true → StoresOk s → errOf i = false →
    (∀ index, indexOf i = some index → index.toNat < s.cfg.npix) →
    (i.op = .push ∨ i.op = .pixSet ∨ i.op = .pixClear ∨ i.op = .pixFlush ∨ i.op = .nop ∨ i.op = .rdreg) →
    ∃ t, exec i s = .next t ∧ t.faulted = false)

/-- 40_smoother.md R111: calibration happens at most once between resets. A CAL_START with CAL_DONE = 1 faults
RECALIBRATION, one with CAL_ACTIVE = 1 faults CAL_SEQUENCE, and once CAL_DONE = 1 no step but reset changes CAL_DONE or
OFFSET. -/
def Obligations.CalibrationHappensOnce : Prop :=
  (∀ (s : State) (count : Half), s.faulted = false → s.calActive = false → s.calDone = true →
    exec (.calStart count) s = .next { s with
      faulted := true
      faultCode := 0x05
      faultOp := 1
      faultInfo := 0
      responses := s.responses ++ [⟨.fault, 0#16 ++ 0#4 ++ 1#4 ++ 0x05#8⟩] }) ∧
  (∀ (s : State) (count : Half), s.faulted = false → s.calActive = true →
    exec (.calStart count) s = .next { s with
      faulted := true
      faultCode := 0x07
      faultOp := 1
      faultInfo := 1
      responses := s.responses ++ [⟨.fault, 1#16 ++ 0#4 ++ 1#4 ++ 0x07#8⟩] }) ∧
  (∀ s t : State, step s = .next t → s.calDone = true → s.calActive = false →
    (∀ rest, s.inputs ≠ .reset :: rest) → t.calDone = true ∧ t.calActive = false ∧ t.offset = s.offset)

/-- 30_encoding.md R95: every command word produces exactly one response, and what FAULT, IGNORED and BADREG say. -/
def Obligations.EveryCommandHasOneResponse : Prop :=
  (RespCode.code .ok = 0 ∧ RespCode.code .fault = 1 ∧ RespCode.code .ignored = 2 ∧ RespCode.code .badreg = 3) ∧
  ∀ (s : State) (cw : CmdWord) (rest : List HostInput), s.inputs = .command cw :: rest →
    (StoresOk s → ∃ t, step s = .next t) ∧
    ∀ t, step s = .next t → ∃ r : Response, t.responses = s.responses ++ [r] ∧
      (r.rc = .ok → t.faulted = s.faulted ∧ firstFault s cw = none ∧
        ∃ i, decode s.cfg.sw cw = .cmd i ∧ (s.faulted = true → i.op = .rdreg) ∧
          step s = exec i { s with inputs := rest }) ∧
      (r.rc = .fault → s.faulted = false ∧ t.faulted = true ∧
        r.data = t.faultInfo ++ 0#4 ++ t.faultOp ++ t.faultCode ∧
        t = { s with
          inputs := rest
          faulted := true
          faultCode := t.faultCode
          faultOp := t.faultOp
          faultInfo := t.faultInfo
          responses := s.responses ++ [r] }) ∧
      (r.rc = .ignored → s.faulted = true ∧ r.data = 0 ∧
        t = { s with inputs := rest, responses := s.responses ++ [r] }) ∧
      (r.rc = .badreg → r.data = 0 ∧
        (∃ addr, decode s.cfg.sw cw = .cmd (.rdreg addr) ∧ regAt s.cfg addr = none) ∧
        t = { s with inputs := rest, responses := s.responses ++ [r] })

/-! ## Control and Sample Smoother (43_control.md, 40_smoother.md) -/

/-- NOP responds (OK, 0) and changes nothing, during calibration too (43_control.md). -/
def Obligations.NopCompletes : Prop :=
  ∀ s : State, s.faulted = false →
    exec .nop s = .next { s with responses := s.responses ++ [⟨.ok, 0⟩] }

/-- CAL_START writes CAL_COUNT, CAL_REMAIN, CAL_ACC and CAL_ACTIVE, and nothing else (40_smoother.md section 1). -/
def Obligations.CalStartCompletes : Prop :=
  ∀ (s : State) (count : Half), s.faulted = false → s.calActive = false → s.calDone = false → count ≠ 0 →
    exec (.calStart count) s = .next { s with
      calCount := count
      calRemain := count
      calAcc := 0
      calActive := true
      responses := s.responses ++ [⟨.ok, 0⟩] }

/-- A CAL_SAMPLE that is not the last adds its sample to CAL_ACC, counts CAL_REMAIN down, and responds with OFFSET
(40_smoother.md section 1). -/
def Obligations.CalSampleAccumulates : Prop :=
  ∀ (s : State) (raw : Half), s.faulted = false → s.calActive = true → raw.toNat < 2 ^ s.cfg.sw → s.calRemain ≠ 1 →
    exec (.calSample false raw) s = .next { s with
      calAcc := s.calAcc + raw.setWidth 32
      calRemain := s.calRemain - 1
      responses := s.responses ++ [⟨.ok, s.offset.setWidth 32⟩] }

/-- 40_smoother.md R115: the CAL_SAMPLE that carries the last sample sets OFFSET to floor(CAL_ACC / CAL_COUNT), below
2^SW, clears CAL_ACTIVE and sets CAL_DONE; CAL_ACC holds the exact sum. -/
def Obligations.LastCalSampleSetsOffset : Prop :=
  ∀ (s : State) (raw : Half), Inv s → s.faulted = false → s.calActive = true → raw.toNat < 2 ^ s.cfg.sw →
    s.calRemain = 1 →
    ∃ t, exec (.calSample false raw) s = .next t ∧
      t = { s with
        calAcc := t.calAcc
        calRemain := 0
        offset := t.offset
        calActive := false
        calDone := true
        responses := s.responses ++ [⟨.ok, t.offset.setWidth 32⟩] } ∧
      t.calAcc.toNat = s.calAcc.toNat + raw.toNat ∧
      t.offset.toNat = t.calAcc.toNat / s.calCount.toNat ∧ t.offset.toNat < 2 ^ s.cfg.sw

/-- Calibration with a constant input: CAL_START n and n samples v leave OFFSET = v, whatever n and v
(40_smoother.md section 1, which derives it), and the ring untouched. -/
def Obligations.ConstantCalibrationGivesTheConstant : Prop :=
  ∀ (s : State) (n : Nat) (v : Half), s.faulted = false → s.calActive = false → s.calDone = false →
    1 ≤ n → n < 2 ^ 16 → v.toNat < 2 ^ s.cfg.sw →
    ∃ t, run (n + 1) { s with
        inputs := stream (.calStart (BitVec.ofNat 16 n) :: List.replicate n (.calSample false v)) } = .next t ∧
      t.offset = v ∧ t.calDone = true ∧ t.calActive = false ∧ t.calRemain = 0 ∧
      t.calAcc.toNat = n * v.toNat ∧ t.ring = s.ring ∧ t.cursor = s.cursor ∧ t.smoothed = s.smoothed

/-- PUSH writes the slot at CURSOR, advances CURSOR modulo W, and sets SMOOTHED to the truncated mean of all slots, its
response; nothing else changes (40_smoother.md section 2). -/
def Obligations.PushCompletes : Prop :=
  ∀ (s : State) (raw : Half), s.faulted = false → s.calActive = false → raw.toNat < 2 ^ s.cfg.sw → RingPresent s →
    ∃ t, exec (.push false raw) s = .next t ∧
      t = { s with
        ring := s.ring.set s.cursor.toNat raw
        cursor := BitVec.ofNat 8 ((s.cursor.toNat + 1) % s.cfg.w)
        smoothed := BitVec.ofNat 16 (((s.ring.set s.cursor.toNat raw).map BitVec.toNat).sum / s.cfg.w)
        responses := s.responses ++ [⟨.ok, t.smoothed.setWidth 32⟩] }

/-- In a block that meets the invariants, PUSH loses no bit: SMOOTHED is exactly floor(SUM / W), below 2^SW, and CURSOR
exactly the successor modulo W (40_smoother.md section 2; 10_state.md section 1). -/
def Obligations.PushAverageIsExact : Prop :=
  ∀ (s : State) (raw : Half), Inv s → s.faulted = false → s.calActive = false → raw.toNat < 2 ^ s.cfg.sw →
    ∃ t, exec (.push false raw) s = .next t ∧
      t.ring[s.cursor.toNat]? = some raw ∧
      t.smoothed.toNat = (t.ring.map BitVec.toNat).sum / s.cfg.w ∧ t.smoothed.toNat < 2 ^ s.cfg.sw ∧
      (t.ring.map BitVec.toNat).sum < 2 ^ 24 ∧
      t.cursor.toNat = (s.cursor.toNat + 1) % s.cfg.w ∧
      t.responses = s.responses ++ [⟨.ok, t.smoothed.setWidth 32⟩]

/-- The window property: after pushes of v_1 … v_k from reset, SMOOTHED is the truncated mean of exactly the last W
values, or of all of them padded with zeros (40_smoother.md section 2, which derives it). -/
def Obligations.SmoothedIsMeanOfLastWindow : Prop :=
  ∀ (c : Cfg) (vs : List Half), vs ≠ [] → (∀ v ∈ vs, v.toNat < 2 ^ c.sw) →
    ∃ t, run vs.length { State.resetWith c with inputs := stream (vs.map (Instr.push false)) } = .next t ∧
      t.smoothed.toNat = ((vs.drop (vs.length - c.w)).map BitVec.toNat).sum / c.w

/-! ## Detection State Machine (41_detection.md) -/

/-- 41_detection.md R131: the amplitude of a tick is exactly floor(|SMOOTHED − OFFSET| · GAIN_NUM / GAIN_DEN), and
nothing overflows. -/
def Obligations.AmplitudeIsExactFloor : Prop :=
  ∀ (s : State) (now : Word), Inv s → TickAdmitted s →
    ∃ t, exec (.tick now) s = .next t ∧
      (let d := ((s.smoothed.toNat : Int) - (s.offset.toNat : Int)).natAbs
       t.amplitude.toNat = d * s.cfg.gainNum / s.cfg.gainDen ∧ d ≤ 2 ^ s.cfg.sw - 1 ∧ d * s.cfg.gainNum < 2 ^ 32) ∧
      t.responses = s.responses ++ [⟨.ok, t.amplitude⟩]

/-- 41_detection.md R132: the gate is open unless a deactivation is pending within the debounce interval, an open gate
clears DEB_PENDING and nothing else, and a tick evaluates it once, before any transition. -/
def Obligations.GateOpensWhenDebounceElapsed : Prop :=
  ∀ (s : State) (now : Word),
    (tickState s now =
      let u := writeAmplitude s
      holdStep (idleStep (settleGate u now) (gateOpen u now) (amplitudeOf s) now) now) ∧
    (s.debPending = false → gateOpen s now = true ∧ settleGate s now = s) ∧
    (s.debPending = true → s.cfg.debounce ≤ (now - s.deactTime).toNat →
      gateOpen s now = true ∧ settleGate s now = { s with debPending := false }) ∧
    (s.debPending = true → (now - s.deactTime).toNat < s.cfg.debounce →
      gateOpen s now = false ∧ settleGate s now = s)

/-- 00_scope.md R13: elapsed is the wrapping unsigned difference. -/
def Obligations.ElapsedIsWrappingDifference : Prop :=
  ∀ a b : Word, ((elapsed a b).toNat : Int) = ((a.toNat : Int) - (b.toNat : Int)) % 2 ^ 32

/-- A tick in Idle with the gate closed writes AMPLITUDE and nothing else, and emits nothing (41_detection.md
section 2). -/
def Obligations.TickWithGateClosedHolds : Prop :=
  ∀ (s : State) (now : Word), TickAdmitted s → s.detState = .idle →
    s.debPending = true → (now - s.deactTime).toNat < s.cfg.debounce →
    exec (.tick now) s = .next { s with
      amplitude := BitVec.ofNat 32 (amplitudeOf s)
      responses := s.responses ++ [⟨.ok, BitVec.ofNat 32 (amplitudeOf s)⟩] }

/-- A tick in Idle with the gate open and no trigger renders IDLE: one Frame (41_detection.md section 2). -/
def Obligations.TickRefreshesIdle : Prop :=
  ∀ (s : State) (now : Word), TickAdmitted s → s.detState = .idle →
    (s.debPending = false ∨ s.cfg.debounce ≤ (now - s.deactTime).toNat) → amplitudeOf s ≤ s.cfg.threshold →
    exec (.tick now) s = .next { s with
      amplitude := BitVec.ofNat 32 (amplitudeOf s)
      debPending := false
      pix := paint s.pix s.cfg.idle
      frames := s.frames + 1
      out := s.out ++ [.frame (frameBytes (paint s.pix s.cfg.idle))]
      responses := s.responses ++ [⟨.ok, BitVec.ofNat 32 (amplitudeOf s)⟩] }

/-- 41_detection.md R136: the effects of the Idle → Active edge and their order in OUT. -/
def Obligations.TickActivates : Prop :=
  ∀ (s : State) (now : Word), TickAdmitted s → s.detState = .idle →
    (s.debPending = false ∨ s.cfg.debounce ≤ (now - s.deactTime).toNat) → s.cfg.threshold < amplitudeOf s →
    1 ≤ s.cfg.hold →
    exec (.tick now) s = .next { s with
      amplitude := BitVec.ofNat 32 (amplitudeOf s)
      debPending := false
      detState := .active
      actTime := now
      statusLed := true
      indLed := false
      pix := paint s.pix s.cfg.alarm
      frames := s.frames + 1
      duty := BitVec.ofNat 32 s.cfg.toneLevel
      out := s.out ++ [.statusLed true, .indLed false, .frame (frameBytes (paint s.pix s.cfg.alarm)),
        .duty (BitVec.ofNat 32 s.cfg.toneLevel)]
      responses := s.responses ++ [⟨.ok, BitVec.ofNat 32 (amplitudeOf s)⟩] }

/-- With HOLD = 0 a tick that activates deactivates at once, and both effect sets are emitted in order
(41_detection.md section 2, which derives it). -/
def Obligations.TickWithZeroHoldActivatesAndDeactivates : Prop :=
  ∀ (s : State) (now : Word), TickAdmitted s → s.detState = .idle →
    (s.debPending = false ∨ s.cfg.debounce ≤ (now - s.deactTime).toNat) → s.cfg.threshold < amplitudeOf s →
    s.cfg.hold = 0 →
    exec (.tick now) s = .next { s with
      amplitude := BitVec.ofNat 32 (amplitudeOf s)
      detState := .idle
      actTime := now
      deactTime := now
      debPending := true
      statusLed := true
      indLed := false
      pix := List.replicate s.cfg.npix ⟨0, 0, 0⟩
      frames := s.frames + 2
      duty := 0
      out := s.out ++ [.statusLed true, .indLed false, .frame (frameBytes (paint s.pix s.cfg.alarm)),
        .duty (BitVec.ofNat 32 s.cfg.toneLevel), .indLed false, .statusLed true,
        .frame (List.replicate (3 * s.cfg.npix) 0), .duty 0]
      responses := s.responses ++ [⟨.ok, BitVec.ofNat 32 (amplitudeOf s)⟩] }

/-- A tick in Active before HOLD has elapsed writes AMPLITUDE (and a DEB_PENDING left set is cleared by an open gate),
whatever the amplitude (41_detection.md section 2). -/
def Obligations.TickStaysActive : Prop :=
  ∀ (s : State) (now : Word), TickAdmitted s → s.detState = .active → (now - s.actTime).toNat < s.cfg.hold →
    exec (.tick now) s = .next { s with
      amplitude := BitVec.ofNat 32 (amplitudeOf s)
      debPending := s.debPending && decide ((now - s.deactTime).toNat < s.cfg.debounce)
      responses := s.responses ++ [⟨.ok, BitVec.ofNat 32 (amplitudeOf s)⟩] }

/-- 41_detection.md R137: the effects of the Active → Idle edge and their order in OUT. -/
def Obligations.TickDeactivates : Prop :=
  ∀ (s : State) (now : Word), TickAdmitted s → s.detState = .active → s.cfg.hold ≤ (now - s.actTime).toNat →
    exec (.tick now) s = .next { s with
      amplitude := BitVec.ofNat 32 (amplitudeOf s)
      indLed := false
      statusLed := true
      pix := List.replicate s.cfg.npix ⟨0, 0, 0⟩
      frames := s.frames + 1
      duty := 0
      detState := .idle
      deactTime := now
      debPending := true
      out := s.out ++ [.indLed false, .statusLed true, .frame (List.replicate (3 * s.cfg.npix) 0), .duty 0]
      responses := s.responses ++ [⟨.ok, BitVec.ofNat 32 (amplitudeOf s)⟩] }

/-- STEP is equal in effect to PUSH raw followed by TICK now, with the one response (OK, amplitude) (41_detection.md
section 4, which derives it). -/
def Obligations.StepIsPushThenTick : Prop :=
  ∀ (s : State) (raw : Half) (now : Word), TickAdmitted s → RingPresent s → raw.toNat < 2 ^ s.cfg.sw →
    ∃ u t, exec (.push false raw) s = .next u ∧ exec (.tick now) u = .next t ∧
      exec (.step false raw now) s = .next { t with responses := s.responses ++ [⟨.ok, t.amplitude⟩] }

/-- Hold: whatever the amplitude, a tick (TICK or STEP) with less than HOLD elapsed since ACT_TIME leaves the block
Active, and one with HOLD or more deactivates it (41_detection.md section 5, which derives it). -/
def Obligations.ActiveUntilHoldElapses : Prop :=
  ∀ (s t : State) (i : Instr) (now : Word), s.detState = .active → ticksAt now i = true →
    exec i s = .next t → s.faulted = false → t.faulted = false →
    ((now - s.actTime).toNat < s.cfg.hold → t.detState = .active ∧ t.actTime = s.actTime ∧ t.out = s.out) ∧
    (s.cfg.hold ≤ (now - s.actTime).toNat → t.detState = .idle ∧ t.deactTime = now ∧ t.debPending = true)

/-- Debounce: after a deactivation a tick (TICK or STEP) inside the interval does not activate, whatever the amplitude,
and changes no presentation; one after it, above the threshold, does (41_detection.md section 5, which derives it). -/
def Obligations.DebounceBlocksThenAdmits : Prop :=
  ∀ (s t : State) (i : Instr) (now : Word), Inv s → s.detState = .idle → s.debPending = true →
    ticksAt now i = true → exec i s = .next t → s.faulted = false → t.faulted = false →
    ((now - s.deactTime).toNat < s.cfg.debounce →
      t.detState = .idle ∧ t.debPending = true ∧ t.pix = s.pix ∧ t.out = s.out) ∧
    (s.cfg.debounce ≤ (now - s.deactTime).toNat → s.cfg.threshold < t.amplitude.toNat → 1 ≤ s.cfg.hold →
      t.detState = .active ∧ t.actTime = now ∧ t.debPending = false)

/-- Both transitions depend on nothing but the state, the amplitude or the elapsed time, and the gate
(41_detection.md section 1): two blocks of one configuration that agree on these, each at its own time, take the same row
of the transition table. They end in the same state, add the same events to OUT but for the bytes of a frame, and record
the time of the same edges. -/
def Obligations.TransitionsReadOnlyTheirInputs : Prop :=
  ∀ (s₁ s₂ t₁ t₂ : State) (now₁ now₂ : Word), TickAdmitted s₁ → TickAdmitted s₂ → s₁.cfg = s₂.cfg →
    s₁.detState = s₂.detState → amplitudeOf s₁ = amplitudeOf s₂ → gateOpen s₁ now₁ = gateOpen s₂ now₂ →
    elapsed now₁ s₁.actTime = elapsed now₂ s₂.actTime →
    exec (.tick now₁) s₁ = .next t₁ → exec (.tick now₂) s₂ = .next t₂ →
    t₁.detState = t₂.detState ∧ t₁.amplitude = t₂.amplitude ∧ t₁.debPending = t₂.debPending ∧
    (∃ ev₁ ev₂, t₁.out = s₁.out ++ ev₁ ∧ t₂.out = s₂.out ++ ev₂ ∧
      ev₁.map OutEvent.withoutBytes = ev₂.map OutEvent.withoutBytes) ∧
    ((t₁.actTime = s₁.actTime ∧ t₂.actTime = s₂.actTime) ∨ (t₁.actTime = now₁ ∧ t₂.actTime = now₂)) ∧
    ((t₁.deactTime = s₁.deactTime ∧ t₂.deactTime = s₂.deactTime) ∨ (t₁.deactTime = now₁ ∧ t₂.deactTime = now₂))

/-- The amplitude example of the source: OFFSET 2048 and SMOOTHED 2090 under gain 13/10 and threshold 50 give 54 and
activate in Idle with the gate open (41_detection.md section 5, which derives it). -/
def Obligations.AmplitudeExampleActivates : Prop :=
  ∀ (s : State) (now : Word), TickAdmitted s → s.cfg.gainNum = 13 → s.cfg.gainDen = 10 → s.cfg.threshold = 50 →
    1 ≤ s.cfg.hold → s.offset = 2048 → s.smoothed = 2090 → s.detState = .idle → gateOpen s now = true →
    ∃ t, exec (.tick now) s = .next t ∧ t.amplitude = 54 ∧ t.detState = .active ∧ t.actTime = now

/-! ## Pixel Buffer (42_pixel.md) -/

/-- PIX_SET writes one pixel and nothing else (42_pixel.md section 1). -/
def Obligations.PixSetCompletes : Prop :=
  ∀ (s : State) (index r g b : Byte), s.faulted = false → s.calActive = false → index.toNat < s.cfg.npix →
    PixelsPresent s →
    exec (.pixSet index r g b) s = .next { s with
      pix := s.pix.set index.toNat ⟨r, g, b⟩
      responses := s.responses ++ [⟨.ok, 0⟩] }

/-- 42_pixel.md R161: a pixel index outside [0, NPIX) raises INDEX_OUT_OF_RANGE and writes no pixel, and no pattern
table has such an index. -/
def Obligations.PixelIndexIsChecked : Prop :=
  (∀ (s : State) (index r g b : Byte), s.faulted = false → s.calActive = false → s.cfg.npix ≤ index.toNat →
    exec (.pixSet index r g b) s = .next { s with
      faulted := true
      faultCode := 0x02
      faultOp := 6
      faultInfo := index.setWidth 16
      responses := s.responses ++ [⟨.fault, (index.setWidth 16 : Half) ++ 0#4 ++ 6#4 ++ 0x02#8⟩] }) ∧
  (∀ c : Cfg, (∀ e ∈ c.alarm, e.index < c.npix) ∧ (∀ e ∈ c.idle, e.index < c.npix))

/-- PIX_CLEAR sets every pixel to BLACK and changes nothing else (42_pixel.md section 1). -/
def Obligations.PixClearCompletes : Prop :=
  ∀ s : State, s.faulted = false → s.calActive = false → PixelsPresent s →
    exec .pixClear s = .next { s with
      pix := List.replicate s.cfg.npix ⟨0, 0, 0⟩
      responses := s.responses ++ [⟨.ok, 0⟩] }

/-- PIX_FLUSH emits one Frame of 3·NPIX bytes, pixel 0 first, each pixel green, red, blue, counts it in FRAMES, and
changes nothing else (42_pixel.md section 1). -/
def Obligations.PixFlushEmitsTheBuffer : Prop :=
  ∀ s : State, s.faulted = false → s.calActive = false → PixelsPresent s →
    ∃ bytes : List Byte,
      exec .pixFlush s = .next { s with
        frames := s.frames + 1
        out := s.out ++ [.frame bytes]
        responses := s.responses ++ [⟨.ok, 0⟩] } ∧
      bytes.length = 3 * s.cfg.npix ∧
      ∀ (k : Nat) (c : Colour), s.pix[k]? = some c →
        bytes[3 * k]? = some c.g ∧ bytes[3 * k + 1]? = some c.r ∧ bytes[3 * k + 2]? = some c.b

/-- 42_pixel.md R166: a render sets the entries and flushes once; a pixel holds the last entry that names it, or what it
held; a table of a configuration names only pixels of the buffer; the reference ALARM's two entries for index 12 carry
the same colour. -/
def Obligations.RenderSetsEntriesThenFlushes : Prop :=
  (∀ (s : State) (table : List PatternEntry),
    ∃ p : List Colour,
      render s table = { s with pix := p, frames := s.frames + 1, out := s.out ++ [.frame (frameBytes p)] } ∧
      p.length = s.pix.length ∧
      ∀ k < s.pix.length,
        p[k]? = match (table.filter fun e => decide (e.index = k)).getLast? with
          | some e => some e.colour
          | none => s.pix[k]?) ∧
  (∀ c : Cfg, ∀ e ∈ c.alarm ++ c.idle, e.index < c.npix) ∧
  (∃ c, Config.reference.alarm.filter (fun e => decide (e.index = 12)) = [⟨12, c⟩, ⟨12, c⟩])

/-- Rendering a table twice leaves the buffer of rendering it once, and sends the same frame twice (42_pixel.md
section 3, which derives it). -/
def Obligations.RenderIsIdempotent : Prop :=
  ∀ (s : State) (table : List PatternEntry),
    ∃ bytes, (render (render s table) table).pix = (render s table).pix ∧
      (render s table).out = s.out ++ [.frame bytes] ∧
      (render (render s table) table).out = s.out ++ [.frame bytes, .frame bytes]

/-- PIX_CLEAR followed by PIX_FLUSH emits a Frame of 3·NPIX zero bytes (42_pixel.md section 3, which derives it). -/
def Obligations.ClearThenFlushIsDark : Prop :=
  ∀ s : State, s.faulted = false → s.calActive = false → PixelsPresent s →
    ∃ u t, exec .pixClear s = .next u ∧ exec .pixFlush u = .next t ∧
      t.out = s.out ++ [.frame (List.replicate (3 * s.cfg.npix) 0)]

/-! ## Registers (10_state.md section 4) -/

/-- 10_state.md R44: STATUS, bit by bit, and 0 after reset. -/
def Obligations.RdregStatusReadsFlags : Prop :=
  (∀ c : Cfg, exec (.rdreg 0x0000) (State.resetWith c) = .next { State.resetWith c with responses := [⟨.ok, 0⟩] }) ∧
  ∀ s : State, ∃ v : Word,
    exec (.rdreg 0x0000) s = .next { s with responses := s.responses ++ [⟨.ok, v⟩] } ∧
    v.getLsbD 0 = decide (s.detState = .active) ∧ v.getLsbD 1 = s.calDone ∧ v.getLsbD 2 = s.calActive ∧
    v.getLsbD 3 = s.debPending ∧ v.getLsbD 4 = s.faulted ∧ v.getLsbD 8 = s.statusLed ∧ v.getLsbD 9 = s.indLed ∧
    ∀ k, (k = 5 ∨ k = 6 ∨ k = 7 ∨ 10 ≤ k) → v.getLsbD k = false

/-- 10_state.md R45: FAULT, field by field, and 0 after reset. -/
def Obligations.RdregFaultReadsRecord : Prop :=
  (∀ c : Cfg, exec (.rdreg 0x0001) (State.resetWith c) = .next { State.resetWith c with responses := [⟨.ok, 0⟩] }) ∧
  ∀ s : State, ∃ v : Word,
    exec (.rdreg 0x0001) s = .next { s with responses := s.responses ++ [⟨.ok, v⟩] } ∧
    v.setWidth 8 = s.faultCode ∧ (v >>> 8).setWidth 4 = s.faultOp ∧ (v >>> 12).setWidth 4 = 0#4 ∧
    (v >>> 16).setWidth 16 = s.faultInfo

/-- 10_state.md R46: the scalar registers, zero-extended, and 0 after reset. -/
def Obligations.RdregReadsScalars : Prop :=
  (∀ c : Cfg, ∀ addr : Half, 0x0002 ≤ addr.toNat → addr.toNat ≤ 0x000C →
    exec (.rdreg addr) (State.resetWith c) = .next { State.resetWith c with responses := [⟨.ok, 0⟩] }) ∧
  ∀ s : State, ∀ p ∈ ([ (0x0002, s.offset.setWidth 32), (0x0003, s.smoothed.setWidth 32), (0x0004, s.amplitude),
      (0x0005, s.actTime), (0x0006, s.deactTime), (0x0007, s.cursor.setWidth 32), (0x0008, s.calAcc),
      (0x0009, s.calRemain.setWidth 32), (0x000A, s.calCount.setWidth 32), (0x000B, s.duty),
      (0x000C, s.frames) ] : List (Half × Word)),
    exec (.rdreg p.1) s = .next { s with responses := s.responses ++ [⟨.ok, p.2⟩] }

/-- 10_state.md R47: the configuration registers read the fields of `cfg`, all below 2^32, and no step changes them. -/
def Obligations.RdregReadsConstantConfiguration : Prop :=
  (∀ s : State, ∀ p ∈ ([ (0x0010, s.cfg.w), (0x0011, s.cfg.npix), (0x0012, s.cfg.sw), (0x0013, s.cfg.gainNum),
      (0x0014, s.cfg.gainDen), (0x0015, s.cfg.threshold), (0x0016, s.cfg.debounce), (0x0017, s.cfg.hold),
      (0x0018, s.cfg.toneLevel) ] : List (Half × Nat)),
    p.2 < 2 ^ 32 ∧
    exec (.rdreg p.1) s = .next { s with responses := s.responses ++ [⟨.ok, BitVec.ofNat 32 p.2⟩] }) ∧
  (∀ s t : State, step s = .next t → t.cfg = s.cfg)

/-- 10_state.md R48: the ring slots at 0x0100 + i. -/
def Obligations.RdregReadsRingSlots : Prop :=
  ∀ (s : State) (i : Nat) (v : Half), i < s.cfg.w → s.ring[i]? = some v →
    exec (.rdreg (BitVec.ofNat 16 (0x0100 + i))) s =
      .next { s with responses := s.responses ++ [⟨.ok, v.setWidth 32⟩] }

/-- 10_state.md R49: the pixels at 0x0200 + i, as 0x00RRGGBB. -/
def Obligations.RdregReadsPixels : Prop :=
  ∀ (s : State) (i : Nat) (c : Colour), i < s.cfg.npix → s.pix[i]? = some c →
    exec (.rdreg (BitVec.ofNat 16 (0x0200 + i))) s =
      .next { s with responses := s.responses ++ [⟨.ok, 0x00#8 ++ c.r ++ c.g ++ c.b⟩] }

/-- 10_state.md R50: every other address responds BADREG with data 0 and changes nothing. -/
def Obligations.RdregRefusesUnmapped : Prop :=
  ∀ (s : State) (addr : Half),
    ((0x000D ≤ addr.toNat ∧ addr.toNat ≤ 0x000F) ∨ (0x0019 ≤ addr.toNat ∧ addr.toNat ≤ 0x00FF) ∨
      (0x0100 + s.cfg.w ≤ addr.toNat ∧ addr.toNat ≤ 0x01FF) ∨ 0x0200 + s.cfg.npix ≤ addr.toNat) →
    exec (.rdreg addr) s = .next { s with responses := s.responses ++ [⟨.badreg, 0⟩] }

/-! ## Frames -/

/-- NOP and RDREG write nothing and emit nothing, in every state (43_control.md; 20_memory.md section 3). -/
def Obligations.ControlCommandsWriteNothing : Prop :=
  ∀ (s t : State) (i : Instr), (i.op = .nop ∨ i.op = .rdreg) → exec i s = .next t →
    t = { s with responses := t.responses }

/-- 40_smoother.md R118: CAL_START and CAL_SAMPLE, completed or faulted, write no ring slot and leave CURSOR, SMOOTHED,
the Detection State, the Pixel Buffer and the outputs alone; CAL_START leaves OFFSET and CAL_DONE. -/
def Obligations.CalibrationLeavesTheRestAlone : Prop :=
  ∀ (s t : State) (i : Instr), (i.op = .calStart ∨ i.op = .calSample) → exec i s = .next t →
    t = { s with
      offset := t.offset
      calDone := t.calDone
      calActive := t.calActive
      calAcc := t.calAcc
      calRemain := t.calRemain
      calCount := t.calCount
      faulted := t.faulted
      faultCode := t.faultCode
      faultOp := t.faultOp
      faultInfo := t.faultInfo
      responses := t.responses } ∧
    (i.op = .calStart → t.offset = s.offset ∧ t.calDone = s.calDone) ∧ (i.op = .calSample → t.calCount = s.calCount)

/-- PUSH, completed or faulted, writes at most the slot at CURSOR, CURSOR, SMOOTHED and the fault registers
(40_smoother.md section 2; 10_state.md section 1). -/
def Obligations.PushFrame : Prop :=
  ∀ (s t : State) (err : Bool) (raw : Half), exec (.push err raw) s = .next t →
    t = { s with
      ring := t.ring
      cursor := t.cursor
      smoothed := t.smoothed
      faulted := t.faulted
      faultCode := t.faultCode
      faultOp := t.faultOp
      faultInfo := t.faultInfo
      responses := t.responses } ∧
    ∀ k, k ≠ s.cursor.toNat → t.ring[k]? = s.ring[k]?

/-- The pixel commands, completed or faulted, write at most PIX (PIX_SET one pixel, PIX_FLUSH none), and PIX_FLUSH
FRAMES and OUT (42_pixel.md section 1). -/
def Obligations.PixelFrame : Prop :=
  ∀ (s t : State) (i : Instr), (i.op = .pixSet ∨ i.op = .pixClear ∨ i.op = .pixFlush) → exec i s = .next t →
    t = { s with
      pix := t.pix
      frames := t.frames
      out := t.out
      faulted := t.faulted
      faultCode := t.faultCode
      faultOp := t.faultOp
      faultInfo := t.faultInfo
      responses := t.responses } ∧
    (i.op ≠ .pixFlush → t.frames = s.frames ∧ t.out = s.out) ∧
    (∀ index, indexOf i = some index → ∀ k, k ≠ index.toNat → t.pix[k]? = s.pix[k]?) ∧
    (i.op = .pixFlush → t.pix = s.pix)

/-- TICK and STEP, completed or faulted, leave OFFSET and the calibration registers; TICK leaves the smoother, STEP
writes at most the slot at CURSOR (41_detection.md section 4). -/
def Obligations.DetectionFrame : Prop :=
  ∀ (s t : State) (i : Instr), (i.op = .tick ∨ i.op = .step) → exec i s = .next t →
    t = { s with
      ring := t.ring
      cursor := t.cursor
      smoothed := t.smoothed
      detState := t.detState
      actTime := t.actTime
      deactTime := t.deactTime
      debPending := t.debPending
      amplitude := t.amplitude
      pix := t.pix
      frames := t.frames
      statusLed := t.statusLed
      indLed := t.indLed
      duty := t.duty
      faulted := t.faulted
      faultCode := t.faultCode
      faultOp := t.faultOp
      faultInfo := t.faultInfo
      out := t.out
      responses := t.responses } ∧
    (i.op = .tick → t.ring = s.ring ∧ t.cursor = s.cursor ∧ t.smoothed = s.smoothed) ∧
    ∀ k, k ≠ s.cursor.toNat → t.ring[k]? = s.ring[k]?

/-! ## The whole machine -/

/-- The state after reset meets the invariants, for every legal configuration (10_state.md section 5). -/
def Obligations.ResetMeetsInvariants : Prop :=
  (∀ c : Cfg, Inv (State.resetWith c)) ∧ Inv State.reset

/-- Every step, of any command word, of reset and of the wait, keeps the invariants of 10_state.md section 5, and those
of the ports and of the output trace: no event drives IND_LED to 1 or STATUS_LED to 0, and once an activation or a
deactivation has happened STATUS_LED = 1 and IND_LED = 0. -/
def Obligations.StepKeepsInvariants : Prop :=
  ∀ s t : State, Inv s → step s = .next t → Inv t

/-- The block never halts: with its stores as `cfg` gives them, every step answers a next state, and its stores stay so
(70_reset_and_hazards.md section 5). -/
def Obligations.BlockNeverHalts : Prop :=
  ∀ s : State, StoresOk s → ∃ t, step s = .next t ∧ StoresOk t

/-- No step but reset takes an event out of OUT, and only TICK, STEP and PIX_FLUSH words add any, at most eight
(10_state.md section 2; 41_detection.md section 2). -/
def Obligations.OutputTraceOnlyGrows : Prop :=
  ∀ s t : State, step s = .next t → (∀ rest, s.inputs ≠ .reset :: rest) →
    ∃ ev, t.out = s.out ++ ev ∧ ev.length ≤ 8 ∧
      (ev ≠ [] → ∃ cw rest, s.inputs = .command cw :: rest ∧
        ((cw >>> 60).toNat = 0x4 ∨ (cw >>> 60).toNat = 0x5 ∨ (cw >>> 60).toNat = 0x8))
end

