-- ==== Sys2Proof/Laws/Encoding.lean ====
section
/-! SUPPORT. The bits and the fields of an assembled command word (30_encoding.md R81). -/

namespace Sys2Proof

theorem assemble_getLsbD (op : BitVec 4) (e : Bool) (i : Byte) (s : Half) (t : Word) (j : Nat) :
    (assemble op e i s t).getLsbD j =
      if j < 32 then t.getLsbD j else if j < 48 then s.getLsbD (j - 32) else if j < 56 then i.getLsbD (j - 48)
      else if j < 59 then false else if j < 60 then e && decide (j = 59) else op.getLsbD (j - 60) := by
  have h : (op ++ BitVec.ofBool e ++ 0#3 ++ i ++ s ++ t : BitVec (4 + 1 + 3 + 8 + 16 + 32)).getLsbD j =
      if j < 32 then t.getLsbD j else if j < 48 then s.getLsbD (j - 32) else if j < 56 then i.getLsbD (j - 48)
      else if j < 59 then false else if j < 60 then e && decide (j = 59) else op.getLsbD (j - 60) := by
    simp only [BitVec.getLsbD_append, BitVec.getLsbD_ofBool, BitVec.getLsbD_zero]
    split_ifs <;> first
      | omega
      | rfl
      | (congr 1; omega)
      | (obtain rfl : j = 59 := by omega
         simp)
  exact h

@[simp] theorem fieldOp_assemble (op : BitVec 4) (e : Bool) (i : Byte) (s : Half) (t : Word) :
    fieldOp (assemble op e i s t) = op := by
  apply BitVec.eq_of_getLsbD_eq
  intro j hj
  simp only [fieldOp, BitVec.getLsbD_extractLsb', assemble_getLsbD]
  rw [if_neg, if_neg, if_neg, if_neg, if_neg] <;> simp <;> omega

@[simp] theorem fieldE_assemble (op : BitVec 4) (e : Bool) (i : Byte) (s : Half) (t : Word) :
    fieldE (assemble op e i s t) = e := by
  rw [fieldE, assemble_getLsbD]
  simp

@[simp] theorem fieldI_assemble (op : BitVec 4) (e : Bool) (i : Byte) (s : Half) (t : Word) :
    fieldI (assemble op e i s t) = i := by
  apply BitVec.eq_of_getLsbD_eq
  intro j hj
  simp only [fieldI, BitVec.getLsbD_extractLsb', assemble_getLsbD]
  rw [if_neg (by omega), if_neg (by omega), if_pos (by omega)]
  simp [hj]

@[simp] theorem fieldS_assemble (op : BitVec 4) (e : Bool) (i : Byte) (s : Half) (t : Word) :
    fieldS (assemble op e i s t) = s := by
  apply BitVec.eq_of_getLsbD_eq
  intro j hj
  simp only [fieldS, BitVec.getLsbD_extractLsb', assemble_getLsbD]
  rw [if_neg (by omega), if_pos (by omega)]
  simp [hj]

@[simp] theorem fieldT_assemble (op : BitVec 4) (e : Bool) (i : Byte) (s : Half) (t : Word) :
    fieldT (assemble op e i s t) = t := by
  apply BitVec.eq_of_getLsbD_eq
  intro j hj
  simp only [fieldT, BitVec.getLsbD_extractLsb', assemble_getLsbD]
  rw [if_pos (by omega)]
  simp [hj]

/-- The OP field of a command's word is its opcode (R83). -/
@[simp] theorem fieldOp_encode (i : Instr) : fieldOp (encode i) = i.op.code := by
  cases i <;> simp [encode, Instr.op]

/-- The rows of the opcode map by opcode (R83). -/
theorem rowOf_code_isSome (op : Op) : (rowOf op.code).isSome = true := by
  cases op <;> decide

end Sys2Proof
end

