-- ==== Sys2Proof/Laws/State.lean ====
section
/-! SUPPORT. What each update of the state does to each field: one lemma per field per update. -/

namespace Sys2Proof.Machine

variable (s : State)

/-! ## State.respond -/

@[simp] theorem State.respond_cfg (rc : RespCode) (d : Word) : (State.respond s rc d).cfg = s.cfg := rfl
@[simp] theorem State.respond_ring (rc : RespCode) (d : Word) : (State.respond s rc d).ring = s.ring := rfl
@[simp] theorem State.respond_cursor (rc : RespCode) (d : Word) : (State.respond s rc d).cursor = s.cursor := rfl
@[simp] theorem State.respond_smoothed (rc : RespCode) (d : Word) :
    (State.respond s rc d).smoothed = s.smoothed := rfl
@[simp] theorem State.respond_offset (rc : RespCode) (d : Word) : (State.respond s rc d).offset = s.offset := rfl
@[simp] theorem State.respond_calDone (rc : RespCode) (d : Word) : (State.respond s rc d).calDone = s.calDone := rfl
@[simp] theorem State.respond_calActive (rc : RespCode) (d : Word) :
    (State.respond s rc d).calActive = s.calActive := rfl
@[simp] theorem State.respond_calAcc (rc : RespCode) (d : Word) : (State.respond s rc d).calAcc = s.calAcc := rfl
@[simp] theorem State.respond_calRemain (rc : RespCode) (d : Word) :
    (State.respond s rc d).calRemain = s.calRemain := rfl
@[simp] theorem State.respond_calCount (rc : RespCode) (d : Word) :
    (State.respond s rc d).calCount = s.calCount := rfl
@[simp] theorem State.respond_detState (rc : RespCode) (d : Word) :
    (State.respond s rc d).detState = s.detState := rfl
@[simp] theorem State.respond_actTime (rc : RespCode) (d : Word) : (State.respond s rc d).actTime = s.actTime := rfl
@[simp] theorem State.respond_deactTime (rc : RespCode) (d : Word) :
    (State.respond s rc d).deactTime = s.deactTime := rfl
@[simp] theorem State.respond_debPending (rc : RespCode) (d : Word) :
    (State.respond s rc d).debPending = s.debPending := rfl
@[simp] theorem State.respond_amplitude (rc : RespCode) (d : Word) :
    (State.respond s rc d).amplitude = s.amplitude := rfl
@[simp] theorem State.respond_pix (rc : RespCode) (d : Word) : (State.respond s rc d).pix = s.pix := rfl
@[simp] theorem State.respond_frames (rc : RespCode) (d : Word) : (State.respond s rc d).frames = s.frames := rfl
@[simp] theorem State.respond_statusLed (rc : RespCode) (d : Word) :
    (State.respond s rc d).statusLed = s.statusLed := rfl
@[simp] theorem State.respond_indLed (rc : RespCode) (d : Word) : (State.respond s rc d).indLed = s.indLed := rfl
@[simp] theorem State.respond_duty (rc : RespCode) (d : Word) : (State.respond s rc d).duty = s.duty := rfl
@[simp] theorem State.respond_faulted (rc : RespCode) (d : Word) : (State.respond s rc d).faulted = s.faulted := rfl
@[simp] theorem State.respond_faultCode (rc : RespCode) (d : Word) :
    (State.respond s rc d).faultCode = s.faultCode := rfl
@[simp] theorem State.respond_faultOp (rc : RespCode) (d : Word) : (State.respond s rc d).faultOp = s.faultOp := rfl
@[simp] theorem State.respond_faultInfo (rc : RespCode) (d : Word) :
    (State.respond s rc d).faultInfo = s.faultInfo := rfl
@[simp] theorem State.respond_out (rc : RespCode) (d : Word) : (State.respond s rc d).out = s.out := rfl
@[simp] theorem State.respond_responses (rc : RespCode) (d : Word) :
    (State.respond s rc d).responses = s.responses ++ [⟨rc, d⟩] := rfl
@[simp] theorem State.respond_inputs (rc : RespCode) (d : Word) : (State.respond s rc d).inputs = s.inputs := rfl

/-! ## raiseFault -/

@[simp] theorem raiseFault_cfg (f : FaultKind) (op : BitVec 4) (info : Half) :
    (raiseFault s f op info).cfg = s.cfg := rfl
@[simp] theorem raiseFault_ring (f : FaultKind) (op : BitVec 4) (info : Half) :
    (raiseFault s f op info).ring = s.ring := rfl
@[simp] theorem raiseFault_cursor (f : FaultKind) (op : BitVec 4) (info : Half) :
    (raiseFault s f op info).cursor = s.cursor := rfl
@[simp] theorem raiseFault_smoothed (f : FaultKind) (op : BitVec 4) (info : Half) :
    (raiseFault s f op info).smoothed = s.smoothed := rfl
@[simp] theorem raiseFault_offset (f : FaultKind) (op : BitVec 4) (info : Half) :
    (raiseFault s f op info).offset = s.offset := rfl
@[simp] theorem raiseFault_calDone (f : FaultKind) (op : BitVec 4) (info : Half) :
    (raiseFault s f op info).calDone = s.calDone := rfl
@[simp] theorem raiseFault_calActive (f : FaultKind) (op : BitVec 4) (info : Half) :
    (raiseFault s f op info).calActive = s.calActive := rfl
@[simp] theorem raiseFault_calAcc (f : FaultKind) (op : BitVec 4) (info : Half) :
    (raiseFault s f op info).calAcc = s.calAcc := rfl
@[simp] theorem raiseFault_calRemain (f : FaultKind) (op : BitVec 4) (info : Half) :
    (raiseFault s f op info).calRemain = s.calRemain := rfl
@[simp] theorem raiseFault_calCount (f : FaultKind) (op : BitVec 4) (info : Half) :
    (raiseFault s f op info).calCount = s.calCount := rfl
@[simp] theorem raiseFault_detState (f : FaultKind) (op : BitVec 4) (info : Half) :
    (raiseFault s f op info).detState = s.detState := rfl
@[simp] theorem raiseFault_actTime (f : FaultKind) (op : BitVec 4) (info : Half) :
    (raiseFault s f op info).actTime = s.actTime := rfl
@[simp] theorem raiseFault_deactTime (f : FaultKind) (op : BitVec 4) (info : Half) :
    (raiseFault s f op info).deactTime = s.deactTime := rfl
@[simp] theorem raiseFault_debPending (f : FaultKind) (op : BitVec 4) (info : Half) :
    (raiseFault s f op info).debPending = s.debPending := rfl
@[simp] theorem raiseFault_amplitude (f : FaultKind) (op : BitVec 4) (info : Half) :
    (raiseFault s f op info).amplitude = s.amplitude := rfl
@[simp] theorem raiseFault_pix (f : FaultKind) (op : BitVec 4) (info : Half) :
    (raiseFault s f op info).pix = s.pix := rfl
@[simp] theorem raiseFault_frames (f : FaultKind) (op : BitVec 4) (info : Half) :
    (raiseFault s f op info).frames = s.frames := rfl
@[simp] theorem raiseFault_statusLed (f : FaultKind) (op : BitVec 4) (info : Half) :
    (raiseFault s f op info).statusLed = s.statusLed := rfl
@[simp] theorem raiseFault_indLed (f : FaultKind) (op : BitVec 4) (info : Half) :
    (raiseFault s f op info).indLed = s.indLed := rfl
@[simp] theorem raiseFault_duty (f : FaultKind) (op : BitVec 4) (info : Half) :
    (raiseFault s f op info).duty = s.duty := rfl
@[simp] theorem raiseFault_faulted (f : FaultKind) (op : BitVec 4) (info : Half) :
    (raiseFault s f op info).faulted = true := rfl
@[simp] theorem raiseFault_faultCode (f : FaultKind) (op : BitVec 4) (info : Half) :
    (raiseFault s f op info).faultCode = f.code := rfl
@[simp] theorem raiseFault_faultOp (f : FaultKind) (op : BitVec 4) (info : Half) :
    (raiseFault s f op info).faultOp = op := rfl
@[simp] theorem raiseFault_faultInfo (f : FaultKind) (op : BitVec 4) (info : Half) :
    (raiseFault s f op info).faultInfo = info := rfl
@[simp] theorem raiseFault_out (f : FaultKind) (op : BitVec 4) (info : Half) :
    (raiseFault s f op info).out = s.out := rfl
@[simp] theorem raiseFault_responses (f : FaultKind) (op : BitVec 4) (info : Half) :
    (raiseFault s f op info).responses = s.responses ++ [⟨.fault, faultImage f.code op info⟩] := rfl
@[simp] theorem raiseFault_inputs (f : FaultKind) (op : BitVec 4) (info : Half) :
    (raiseFault s f op info).inputs = s.inputs := rfl

/-! ## startCalibration -/

@[simp] theorem startCalibration_cfg (count : Half) : (startCalibration s count).cfg = s.cfg := rfl
@[simp] theorem startCalibration_ring (count : Half) : (startCalibration s count).ring = s.ring := rfl
@[simp] theorem startCalibration_cursor (count : Half) : (startCalibration s count).cursor = s.cursor := rfl
@[simp] theorem startCalibration_smoothed (count : Half) : (startCalibration s count).smoothed = s.smoothed := rfl
@[simp] theorem startCalibration_offset (count : Half) : (startCalibration s count).offset = s.offset := rfl
@[simp] theorem startCalibration_calDone (count : Half) : (startCalibration s count).calDone = s.calDone := rfl
@[simp] theorem startCalibration_calActive (count : Half) : (startCalibration s count).calActive = true := rfl
@[simp] theorem startCalibration_calAcc (count : Half) : (startCalibration s count).calAcc = 0 := rfl
@[simp] theorem startCalibration_calRemain (count : Half) : (startCalibration s count).calRemain = count := rfl
@[simp] theorem startCalibration_calCount (count : Half) : (startCalibration s count).calCount = count := rfl
@[simp] theorem startCalibration_detState (count : Half) : (startCalibration s count).detState = s.detState := rfl
@[simp] theorem startCalibration_actTime (count : Half) : (startCalibration s count).actTime = s.actTime := rfl
@[simp] theorem startCalibration_deactTime (count : Half) : (startCalibration s count).deactTime = s.deactTime := rfl
@[simp] theorem startCalibration_debPending (count : Half) :
    (startCalibration s count).debPending = s.debPending := rfl
@[simp] theorem startCalibration_amplitude (count : Half) : (startCalibration s count).amplitude = s.amplitude := rfl
@[simp] theorem startCalibration_pix (count : Half) : (startCalibration s count).pix = s.pix := rfl
@[simp] theorem startCalibration_frames (count : Half) : (startCalibration s count).frames = s.frames := rfl
@[simp] theorem startCalibration_statusLed (count : Half) : (startCalibration s count).statusLed = s.statusLed := rfl
@[simp] theorem startCalibration_indLed (count : Half) : (startCalibration s count).indLed = s.indLed := rfl
@[simp] theorem startCalibration_duty (count : Half) : (startCalibration s count).duty = s.duty := rfl
@[simp] theorem startCalibration_faulted (count : Half) : (startCalibration s count).faulted = s.faulted := rfl
@[simp] theorem startCalibration_faultCode (count : Half) : (startCalibration s count).faultCode = s.faultCode := rfl
@[simp] theorem startCalibration_faultOp (count : Half) : (startCalibration s count).faultOp = s.faultOp := rfl
@[simp] theorem startCalibration_faultInfo (count : Half) : (startCalibration s count).faultInfo = s.faultInfo := rfl
@[simp] theorem startCalibration_out (count : Half) : (startCalibration s count).out = s.out := rfl
@[simp] theorem startCalibration_responses (count : Half) : (startCalibration s count).responses = s.responses := rfl
@[simp] theorem startCalibration_inputs (count : Half) : (startCalibration s count).inputs = s.inputs := rfl

/-! ## completeCalibration -/

@[simp] theorem completeCalibration_cfg : (completeCalibration s).cfg = s.cfg := rfl
@[simp] theorem completeCalibration_ring : (completeCalibration s).ring = s.ring := rfl
@[simp] theorem completeCalibration_cursor : (completeCalibration s).cursor = s.cursor := rfl
@[simp] theorem completeCalibration_smoothed : (completeCalibration s).smoothed = s.smoothed := rfl
@[simp] theorem completeCalibration_offset :
    (completeCalibration s).offset = BitVec.ofNat 16 (s.calAcc.toNat / s.calCount.toNat) := rfl
@[simp] theorem completeCalibration_calDone : (completeCalibration s).calDone = true := rfl
@[simp] theorem completeCalibration_calActive : (completeCalibration s).calActive = false := rfl
@[simp] theorem completeCalibration_calAcc : (completeCalibration s).calAcc = s.calAcc := rfl
@[simp] theorem completeCalibration_calRemain : (completeCalibration s).calRemain = s.calRemain := rfl
@[simp] theorem completeCalibration_calCount : (completeCalibration s).calCount = s.calCount := rfl
@[simp] theorem completeCalibration_detState : (completeCalibration s).detState = s.detState := rfl
@[simp] theorem completeCalibration_actTime : (completeCalibration s).actTime = s.actTime := rfl
@[simp] theorem completeCalibration_deactTime : (completeCalibration s).deactTime = s.deactTime := rfl
@[simp] theorem completeCalibration_debPending : (completeCalibration s).debPending = s.debPending := rfl
@[simp] theorem completeCalibration_amplitude : (completeCalibration s).amplitude = s.amplitude := rfl
@[simp] theorem completeCalibration_pix : (completeCalibration s).pix = s.pix := rfl
@[simp] theorem completeCalibration_frames : (completeCalibration s).frames = s.frames := rfl
@[simp] theorem completeCalibration_statusLed : (completeCalibration s).statusLed = s.statusLed := rfl
@[simp] theorem completeCalibration_indLed : (completeCalibration s).indLed = s.indLed := rfl
@[simp] theorem completeCalibration_duty : (completeCalibration s).duty = s.duty := rfl
@[simp] theorem completeCalibration_faulted : (completeCalibration s).faulted = s.faulted := rfl
@[simp] theorem completeCalibration_faultCode : (completeCalibration s).faultCode = s.faultCode := rfl
@[simp] theorem completeCalibration_faultOp : (completeCalibration s).faultOp = s.faultOp := rfl
@[simp] theorem completeCalibration_faultInfo : (completeCalibration s).faultInfo = s.faultInfo := rfl
@[simp] theorem completeCalibration_out : (completeCalibration s).out = s.out := rfl
@[simp] theorem completeCalibration_responses : (completeCalibration s).responses = s.responses := rfl
@[simp] theorem completeCalibration_inputs : (completeCalibration s).inputs = s.inputs := rfl

/-! ## pushSample -/

@[simp] theorem pushSample_cfg (raw : Half) : (pushSample s raw).cfg = s.cfg := rfl
@[simp] theorem pushSample_ring (raw : Half) : (pushSample s raw).ring = s.ring.set s.cursor.toNat raw := rfl
@[simp] theorem pushSample_cursor (raw : Half) :
    (pushSample s raw).cursor = BitVec.ofNat 8 ((s.cursor.toNat + 1) % s.cfg.w) := rfl
@[simp] theorem pushSample_smoothed (raw : Half) :
    (pushSample s raw).smoothed = BitVec.ofNat 16 (ringSum (s.ring.set s.cursor.toNat raw) / s.cfg.w) := rfl
@[simp] theorem pushSample_offset (raw : Half) : (pushSample s raw).offset = s.offset := rfl
@[simp] theorem pushSample_calDone (raw : Half) : (pushSample s raw).calDone = s.calDone := rfl
@[simp] theorem pushSample_calActive (raw : Half) : (pushSample s raw).calActive = s.calActive := rfl
@[simp] theorem pushSample_calAcc (raw : Half) : (pushSample s raw).calAcc = s.calAcc := rfl
@[simp] theorem pushSample_calRemain (raw : Half) : (pushSample s raw).calRemain = s.calRemain := rfl
@[simp] theorem pushSample_calCount (raw : Half) : (pushSample s raw).calCount = s.calCount := rfl
@[simp] theorem pushSample_detState (raw : Half) : (pushSample s raw).detState = s.detState := rfl
@[simp] theorem pushSample_actTime (raw : Half) : (pushSample s raw).actTime = s.actTime := rfl
@[simp] theorem pushSample_deactTime (raw : Half) : (pushSample s raw).deactTime = s.deactTime := rfl
@[simp] theorem pushSample_debPending (raw : Half) : (pushSample s raw).debPending = s.debPending := rfl
@[simp] theorem pushSample_amplitude (raw : Half) : (pushSample s raw).amplitude = s.amplitude := rfl
@[simp] theorem pushSample_pix (raw : Half) : (pushSample s raw).pix = s.pix := rfl
@[simp] theorem pushSample_frames (raw : Half) : (pushSample s raw).frames = s.frames := rfl
@[simp] theorem pushSample_statusLed (raw : Half) : (pushSample s raw).statusLed = s.statusLed := rfl
@[simp] theorem pushSample_indLed (raw : Half) : (pushSample s raw).indLed = s.indLed := rfl
@[simp] theorem pushSample_duty (raw : Half) : (pushSample s raw).duty = s.duty := rfl
@[simp] theorem pushSample_faulted (raw : Half) : (pushSample s raw).faulted = s.faulted := rfl
@[simp] theorem pushSample_faultCode (raw : Half) : (pushSample s raw).faultCode = s.faultCode := rfl
@[simp] theorem pushSample_faultOp (raw : Half) : (pushSample s raw).faultOp = s.faultOp := rfl
@[simp] theorem pushSample_faultInfo (raw : Half) : (pushSample s raw).faultInfo = s.faultInfo := rfl
@[simp] theorem pushSample_out (raw : Half) : (pushSample s raw).out = s.out := rfl
@[simp] theorem pushSample_responses (raw : Half) : (pushSample s raw).responses = s.responses := rfl
@[simp] theorem pushSample_inputs (raw : Half) : (pushSample s raw).inputs = s.inputs := rfl

/-! ## setPixel -/

@[simp] theorem setPixel_cfg (i : Nat) (c : Colour) : (setPixel s i c).cfg = s.cfg := rfl
@[simp] theorem setPixel_ring (i : Nat) (c : Colour) : (setPixel s i c).ring = s.ring := rfl
@[simp] theorem setPixel_cursor (i : Nat) (c : Colour) : (setPixel s i c).cursor = s.cursor := rfl
@[simp] theorem setPixel_smoothed (i : Nat) (c : Colour) : (setPixel s i c).smoothed = s.smoothed := rfl
@[simp] theorem setPixel_offset (i : Nat) (c : Colour) : (setPixel s i c).offset = s.offset := rfl
@[simp] theorem setPixel_calDone (i : Nat) (c : Colour) : (setPixel s i c).calDone = s.calDone := rfl
@[simp] theorem setPixel_calActive (i : Nat) (c : Colour) : (setPixel s i c).calActive = s.calActive := rfl
@[simp] theorem setPixel_calAcc (i : Nat) (c : Colour) : (setPixel s i c).calAcc = s.calAcc := rfl
@[simp] theorem setPixel_calRemain (i : Nat) (c : Colour) : (setPixel s i c).calRemain = s.calRemain := rfl
@[simp] theorem setPixel_calCount (i : Nat) (c : Colour) : (setPixel s i c).calCount = s.calCount := rfl
@[simp] theorem setPixel_detState (i : Nat) (c : Colour) : (setPixel s i c).detState = s.detState := rfl
@[simp] theorem setPixel_actTime (i : Nat) (c : Colour) : (setPixel s i c).actTime = s.actTime := rfl
@[simp] theorem setPixel_deactTime (i : Nat) (c : Colour) : (setPixel s i c).deactTime = s.deactTime := rfl
@[simp] theorem setPixel_debPending (i : Nat) (c : Colour) : (setPixel s i c).debPending = s.debPending := rfl
@[simp] theorem setPixel_amplitude (i : Nat) (c : Colour) : (setPixel s i c).amplitude = s.amplitude := rfl
@[simp] theorem setPixel_pix (i : Nat) (c : Colour) : (setPixel s i c).pix = s.pix.set i c := rfl
@[simp] theorem setPixel_frames (i : Nat) (c : Colour) : (setPixel s i c).frames = s.frames := rfl
@[simp] theorem setPixel_statusLed (i : Nat) (c : Colour) : (setPixel s i c).statusLed = s.statusLed := rfl
@[simp] theorem setPixel_indLed (i : Nat) (c : Colour) : (setPixel s i c).indLed = s.indLed := rfl
@[simp] theorem setPixel_duty (i : Nat) (c : Colour) : (setPixel s i c).duty = s.duty := rfl
@[simp] theorem setPixel_faulted (i : Nat) (c : Colour) : (setPixel s i c).faulted = s.faulted := rfl
@[simp] theorem setPixel_faultCode (i : Nat) (c : Colour) : (setPixel s i c).faultCode = s.faultCode := rfl
@[simp] theorem setPixel_faultOp (i : Nat) (c : Colour) : (setPixel s i c).faultOp = s.faultOp := rfl
@[simp] theorem setPixel_faultInfo (i : Nat) (c : Colour) : (setPixel s i c).faultInfo = s.faultInfo := rfl
@[simp] theorem setPixel_out (i : Nat) (c : Colour) : (setPixel s i c).out = s.out := rfl
@[simp] theorem setPixel_responses (i : Nat) (c : Colour) : (setPixel s i c).responses = s.responses := rfl
@[simp] theorem setPixel_inputs (i : Nat) (c : Colour) : (setPixel s i c).inputs = s.inputs := rfl

/-! ## clearAll -/

@[simp] theorem clearAll_cfg : (clearAll s).cfg = s.cfg := rfl
@[simp] theorem clearAll_ring : (clearAll s).ring = s.ring := rfl
@[simp] theorem clearAll_cursor : (clearAll s).cursor = s.cursor := rfl
@[simp] theorem clearAll_smoothed : (clearAll s).smoothed = s.smoothed := rfl
@[simp] theorem clearAll_offset : (clearAll s).offset = s.offset := rfl
@[simp] theorem clearAll_calDone : (clearAll s).calDone = s.calDone := rfl
@[simp] theorem clearAll_calActive : (clearAll s).calActive = s.calActive := rfl
@[simp] theorem clearAll_calAcc : (clearAll s).calAcc = s.calAcc := rfl
@[simp] theorem clearAll_calRemain : (clearAll s).calRemain = s.calRemain := rfl
@[simp] theorem clearAll_calCount : (clearAll s).calCount = s.calCount := rfl
@[simp] theorem clearAll_detState : (clearAll s).detState = s.detState := rfl
@[simp] theorem clearAll_actTime : (clearAll s).actTime = s.actTime := rfl
@[simp] theorem clearAll_deactTime : (clearAll s).deactTime = s.deactTime := rfl
@[simp] theorem clearAll_debPending : (clearAll s).debPending = s.debPending := rfl
@[simp] theorem clearAll_amplitude : (clearAll s).amplitude = s.amplitude := rfl
@[simp] theorem clearAll_pix : (clearAll s).pix = List.replicate s.cfg.npix Colour.black := rfl
@[simp] theorem clearAll_frames : (clearAll s).frames = s.frames := rfl
@[simp] theorem clearAll_statusLed : (clearAll s).statusLed = s.statusLed := rfl
@[simp] theorem clearAll_indLed : (clearAll s).indLed = s.indLed := rfl
@[simp] theorem clearAll_duty : (clearAll s).duty = s.duty := rfl
@[simp] theorem clearAll_faulted : (clearAll s).faulted = s.faulted := rfl
@[simp] theorem clearAll_faultCode : (clearAll s).faultCode = s.faultCode := rfl
@[simp] theorem clearAll_faultOp : (clearAll s).faultOp = s.faultOp := rfl
@[simp] theorem clearAll_faultInfo : (clearAll s).faultInfo = s.faultInfo := rfl
@[simp] theorem clearAll_out : (clearAll s).out = s.out := rfl
@[simp] theorem clearAll_responses : (clearAll s).responses = s.responses := rfl
@[simp] theorem clearAll_inputs : (clearAll s).inputs = s.inputs := rfl

/-! ## setEntries -/

@[simp] theorem setEntries_cfg (table : List PatternEntry) : (setEntries s table).cfg = s.cfg := rfl
@[simp] theorem setEntries_ring (table : List PatternEntry) : (setEntries s table).ring = s.ring := rfl
@[simp] theorem setEntries_cursor (table : List PatternEntry) : (setEntries s table).cursor = s.cursor := rfl
@[simp] theorem setEntries_smoothed (table : List PatternEntry) : (setEntries s table).smoothed = s.smoothed := rfl
@[simp] theorem setEntries_offset (table : List PatternEntry) : (setEntries s table).offset = s.offset := rfl
@[simp] theorem setEntries_calDone (table : List PatternEntry) : (setEntries s table).calDone = s.calDone := rfl
@[simp] theorem setEntries_calActive (table : List PatternEntry) : (setEntries s table).calActive = s.calActive := rfl
@[simp] theorem setEntries_calAcc (table : List PatternEntry) : (setEntries s table).calAcc = s.calAcc := rfl
@[simp] theorem setEntries_calRemain (table : List PatternEntry) : (setEntries s table).calRemain = s.calRemain := rfl
@[simp] theorem setEntries_calCount (table : List PatternEntry) : (setEntries s table).calCount = s.calCount := rfl
@[simp] theorem setEntries_detState (table : List PatternEntry) : (setEntries s table).detState = s.detState := rfl
@[simp] theorem setEntries_actTime (table : List PatternEntry) : (setEntries s table).actTime = s.actTime := rfl
@[simp] theorem setEntries_deactTime (table : List PatternEntry) : (setEntries s table).deactTime = s.deactTime := rfl
@[simp] theorem setEntries_debPending (table : List PatternEntry) :
    (setEntries s table).debPending = s.debPending := rfl
@[simp] theorem setEntries_amplitude (table : List PatternEntry) : (setEntries s table).amplitude = s.amplitude := rfl
@[simp] theorem setEntries_pix (table : List PatternEntry) : (setEntries s table).pix = paint s.pix table := rfl
@[simp] theorem setEntries_frames (table : List PatternEntry) : (setEntries s table).frames = s.frames := rfl
@[simp] theorem setEntries_statusLed (table : List PatternEntry) : (setEntries s table).statusLed = s.statusLed := rfl
@[simp] theorem setEntries_indLed (table : List PatternEntry) : (setEntries s table).indLed = s.indLed := rfl
@[simp] theorem setEntries_duty (table : List PatternEntry) : (setEntries s table).duty = s.duty := rfl
@[simp] theorem setEntries_faulted (table : List PatternEntry) : (setEntries s table).faulted = s.faulted := rfl
@[simp] theorem setEntries_faultCode (table : List PatternEntry) : (setEntries s table).faultCode = s.faultCode := rfl
@[simp] theorem setEntries_faultOp (table : List PatternEntry) : (setEntries s table).faultOp = s.faultOp := rfl
@[simp] theorem setEntries_faultInfo (table : List PatternEntry) : (setEntries s table).faultInfo = s.faultInfo := rfl
@[simp] theorem setEntries_out (table : List PatternEntry) : (setEntries s table).out = s.out := rfl
@[simp] theorem setEntries_responses (table : List PatternEntry) : (setEntries s table).responses = s.responses := rfl
@[simp] theorem setEntries_inputs (table : List PatternEntry) : (setEntries s table).inputs = s.inputs := rfl

/-! ## flush -/

@[simp] theorem flush_cfg : (flush s).cfg = s.cfg := rfl
@[simp] theorem flush_ring : (flush s).ring = s.ring := rfl
@[simp] theorem flush_cursor : (flush s).cursor = s.cursor := rfl
@[simp] theorem flush_smoothed : (flush s).smoothed = s.smoothed := rfl
@[simp] theorem flush_offset : (flush s).offset = s.offset := rfl
@[simp] theorem flush_calDone : (flush s).calDone = s.calDone := rfl
@[simp] theorem flush_calActive : (flush s).calActive = s.calActive := rfl
@[simp] theorem flush_calAcc : (flush s).calAcc = s.calAcc := rfl
@[simp] theorem flush_calRemain : (flush s).calRemain = s.calRemain := rfl
@[simp] theorem flush_calCount : (flush s).calCount = s.calCount := rfl
@[simp] theorem flush_detState : (flush s).detState = s.detState := rfl
@[simp] theorem flush_actTime : (flush s).actTime = s.actTime := rfl
@[simp] theorem flush_deactTime : (flush s).deactTime = s.deactTime := rfl
@[simp] theorem flush_debPending : (flush s).debPending = s.debPending := rfl
@[simp] theorem flush_amplitude : (flush s).amplitude = s.amplitude := rfl
@[simp] theorem flush_pix : (flush s).pix = s.pix := rfl
@[simp] theorem flush_frames : (flush s).frames = s.frames + 1 := rfl
@[simp] theorem flush_statusLed : (flush s).statusLed = s.statusLed := rfl
@[simp] theorem flush_indLed : (flush s).indLed = s.indLed := rfl
@[simp] theorem flush_duty : (flush s).duty = s.duty := rfl
@[simp] theorem flush_faulted : (flush s).faulted = s.faulted := rfl
@[simp] theorem flush_faultCode : (flush s).faultCode = s.faultCode := rfl
@[simp] theorem flush_faultOp : (flush s).faultOp = s.faultOp := rfl
@[simp] theorem flush_faultInfo : (flush s).faultInfo = s.faultInfo := rfl
@[simp] theorem flush_out : (flush s).out = s.out ++ [.frame (frameBytes s.pix)] := rfl
@[simp] theorem flush_responses : (flush s).responses = s.responses := rfl
@[simp] theorem flush_inputs : (flush s).inputs = s.inputs := rfl

/-! ## setStatusLed -/

@[simp] theorem setStatusLed_cfg (v : Bool) : (setStatusLed s v).cfg = s.cfg := rfl
@[simp] theorem setStatusLed_ring (v : Bool) : (setStatusLed s v).ring = s.ring := rfl
@[simp] theorem setStatusLed_cursor (v : Bool) : (setStatusLed s v).cursor = s.cursor := rfl
@[simp] theorem setStatusLed_smoothed (v : Bool) : (setStatusLed s v).smoothed = s.smoothed := rfl
@[simp] theorem setStatusLed_offset (v : Bool) : (setStatusLed s v).offset = s.offset := rfl
@[simp] theorem setStatusLed_calDone (v : Bool) : (setStatusLed s v).calDone = s.calDone := rfl
@[simp] theorem setStatusLed_calActive (v : Bool) : (setStatusLed s v).calActive = s.calActive := rfl
@[simp] theorem setStatusLed_calAcc (v : Bool) : (setStatusLed s v).calAcc = s.calAcc := rfl
@[simp] theorem setStatusLed_calRemain (v : Bool) : (setStatusLed s v).calRemain = s.calRemain := rfl
@[simp] theorem setStatusLed_calCount (v : Bool) : (setStatusLed s v).calCount = s.calCount := rfl
@[simp] theorem setStatusLed_detState (v : Bool) : (setStatusLed s v).detState = s.detState := rfl
@[simp] theorem setStatusLed_actTime (v : Bool) : (setStatusLed s v).actTime = s.actTime := rfl
@[simp] theorem setStatusLed_deactTime (v : Bool) : (setStatusLed s v).deactTime = s.deactTime := rfl
@[simp] theorem setStatusLed_debPending (v : Bool) : (setStatusLed s v).debPending = s.debPending := rfl
@[simp] theorem setStatusLed_amplitude (v : Bool) : (setStatusLed s v).amplitude = s.amplitude := rfl
@[simp] theorem setStatusLed_pix (v : Bool) : (setStatusLed s v).pix = s.pix := rfl
@[simp] theorem setStatusLed_frames (v : Bool) : (setStatusLed s v).frames = s.frames := rfl
@[simp] theorem setStatusLed_statusLed (v : Bool) : (setStatusLed s v).statusLed = v := rfl
@[simp] theorem setStatusLed_indLed (v : Bool) : (setStatusLed s v).indLed = s.indLed := rfl
@[simp] theorem setStatusLed_duty (v : Bool) : (setStatusLed s v).duty = s.duty := rfl
@[simp] theorem setStatusLed_faulted (v : Bool) : (setStatusLed s v).faulted = s.faulted := rfl
@[simp] theorem setStatusLed_faultCode (v : Bool) : (setStatusLed s v).faultCode = s.faultCode := rfl
@[simp] theorem setStatusLed_faultOp (v : Bool) : (setStatusLed s v).faultOp = s.faultOp := rfl
@[simp] theorem setStatusLed_faultInfo (v : Bool) : (setStatusLed s v).faultInfo = s.faultInfo := rfl
@[simp] theorem setStatusLed_out (v : Bool) : (setStatusLed s v).out = s.out ++ [.statusLed v] := rfl
@[simp] theorem setStatusLed_responses (v : Bool) : (setStatusLed s v).responses = s.responses := rfl
@[simp] theorem setStatusLed_inputs (v : Bool) : (setStatusLed s v).inputs = s.inputs := rfl

/-! ## setIndLed -/

@[simp] theorem setIndLed_cfg (v : Bool) : (setIndLed s v).cfg = s.cfg := rfl
@[simp] theorem setIndLed_ring (v : Bool) : (setIndLed s v).ring = s.ring := rfl
@[simp] theorem setIndLed_cursor (v : Bool) : (setIndLed s v).cursor = s.cursor := rfl
@[simp] theorem setIndLed_smoothed (v : Bool) : (setIndLed s v).smoothed = s.smoothed := rfl
@[simp] theorem setIndLed_offset (v : Bool) : (setIndLed s v).offset = s.offset := rfl
@[simp] theorem setIndLed_calDone (v : Bool) : (setIndLed s v).calDone = s.calDone := rfl
@[simp] theorem setIndLed_calActive (v : Bool) : (setIndLed s v).calActive = s.calActive := rfl
@[simp] theorem setIndLed_calAcc (v : Bool) : (setIndLed s v).calAcc = s.calAcc := rfl
@[simp] theorem setIndLed_calRemain (v : Bool) : (setIndLed s v).calRemain = s.calRemain := rfl
@[simp] theorem setIndLed_calCount (v : Bool) : (setIndLed s v).calCount = s.calCount := rfl
@[simp] theorem setIndLed_detState (v : Bool) : (setIndLed s v).detState = s.detState := rfl
@[simp] theorem setIndLed_actTime (v : Bool) : (setIndLed s v).actTime = s.actTime := rfl
@[simp] theorem setIndLed_deactTime (v : Bool) : (setIndLed s v).deactTime = s.deactTime := rfl
@[simp] theorem setIndLed_debPending (v : Bool) : (setIndLed s v).debPending = s.debPending := rfl
@[simp] theorem setIndLed_amplitude (v : Bool) : (setIndLed s v).amplitude = s.amplitude := rfl
@[simp] theorem setIndLed_pix (v : Bool) : (setIndLed s v).pix = s.pix := rfl
@[simp] theorem setIndLed_frames (v : Bool) : (setIndLed s v).frames = s.frames := rfl
@[simp] theorem setIndLed_statusLed (v : Bool) : (setIndLed s v).statusLed = s.statusLed := rfl
@[simp] theorem setIndLed_indLed (v : Bool) : (setIndLed s v).indLed = v := rfl
@[simp] theorem setIndLed_duty (v : Bool) : (setIndLed s v).duty = s.duty := rfl
@[simp] theorem setIndLed_faulted (v : Bool) : (setIndLed s v).faulted = s.faulted := rfl
@[simp] theorem setIndLed_faultCode (v : Bool) : (setIndLed s v).faultCode = s.faultCode := rfl
@[simp] theorem setIndLed_faultOp (v : Bool) : (setIndLed s v).faultOp = s.faultOp := rfl
@[simp] theorem setIndLed_faultInfo (v : Bool) : (setIndLed s v).faultInfo = s.faultInfo := rfl
@[simp] theorem setIndLed_out (v : Bool) : (setIndLed s v).out = s.out ++ [.indLed v] := rfl
@[simp] theorem setIndLed_responses (v : Bool) : (setIndLed s v).responses = s.responses := rfl
@[simp] theorem setIndLed_inputs (v : Bool) : (setIndLed s v).inputs = s.inputs := rfl

/-! ## setDuty -/

@[simp] theorem setDuty_cfg (v : Word) : (setDuty s v).cfg = s.cfg := rfl
@[simp] theorem setDuty_ring (v : Word) : (setDuty s v).ring = s.ring := rfl
@[simp] theorem setDuty_cursor (v : Word) : (setDuty s v).cursor = s.cursor := rfl
@[simp] theorem setDuty_smoothed (v : Word) : (setDuty s v).smoothed = s.smoothed := rfl
@[simp] theorem setDuty_offset (v : Word) : (setDuty s v).offset = s.offset := rfl
@[simp] theorem setDuty_calDone (v : Word) : (setDuty s v).calDone = s.calDone := rfl
@[simp] theorem setDuty_calActive (v : Word) : (setDuty s v).calActive = s.calActive := rfl
@[simp] theorem setDuty_calAcc (v : Word) : (setDuty s v).calAcc = s.calAcc := rfl
@[simp] theorem setDuty_calRemain (v : Word) : (setDuty s v).calRemain = s.calRemain := rfl
@[simp] theorem setDuty_calCount (v : Word) : (setDuty s v).calCount = s.calCount := rfl
@[simp] theorem setDuty_detState (v : Word) : (setDuty s v).detState = s.detState := rfl
@[simp] theorem setDuty_actTime (v : Word) : (setDuty s v).actTime = s.actTime := rfl
@[simp] theorem setDuty_deactTime (v : Word) : (setDuty s v).deactTime = s.deactTime := rfl
@[simp] theorem setDuty_debPending (v : Word) : (setDuty s v).debPending = s.debPending := rfl
@[simp] theorem setDuty_amplitude (v : Word) : (setDuty s v).amplitude = s.amplitude := rfl
@[simp] theorem setDuty_pix (v : Word) : (setDuty s v).pix = s.pix := rfl
@[simp] theorem setDuty_frames (v : Word) : (setDuty s v).frames = s.frames := rfl
@[simp] theorem setDuty_statusLed (v : Word) : (setDuty s v).statusLed = s.statusLed := rfl
@[simp] theorem setDuty_indLed (v : Word) : (setDuty s v).indLed = s.indLed := rfl
@[simp] theorem setDuty_duty (v : Word) : (setDuty s v).duty = v := rfl
@[simp] theorem setDuty_faulted (v : Word) : (setDuty s v).faulted = s.faulted := rfl
@[simp] theorem setDuty_faultCode (v : Word) : (setDuty s v).faultCode = s.faultCode := rfl
@[simp] theorem setDuty_faultOp (v : Word) : (setDuty s v).faultOp = s.faultOp := rfl
@[simp] theorem setDuty_faultInfo (v : Word) : (setDuty s v).faultInfo = s.faultInfo := rfl
@[simp] theorem setDuty_out (v : Word) : (setDuty s v).out = s.out ++ [.duty v] := rfl
@[simp] theorem setDuty_responses (v : Word) : (setDuty s v).responses = s.responses := rfl
@[simp] theorem setDuty_inputs (v : Word) : (setDuty s v).inputs = s.inputs := rfl

/-! ## setActive -/

@[simp] theorem setActive_cfg (now : Word) : (setActive s now).cfg = s.cfg := rfl
@[simp] theorem setActive_ring (now : Word) : (setActive s now).ring = s.ring := rfl
@[simp] theorem setActive_cursor (now : Word) : (setActive s now).cursor = s.cursor := rfl
@[simp] theorem setActive_smoothed (now : Word) : (setActive s now).smoothed = s.smoothed := rfl
@[simp] theorem setActive_offset (now : Word) : (setActive s now).offset = s.offset := rfl
@[simp] theorem setActive_calDone (now : Word) : (setActive s now).calDone = s.calDone := rfl
@[simp] theorem setActive_calActive (now : Word) : (setActive s now).calActive = s.calActive := rfl
@[simp] theorem setActive_calAcc (now : Word) : (setActive s now).calAcc = s.calAcc := rfl
@[simp] theorem setActive_calRemain (now : Word) : (setActive s now).calRemain = s.calRemain := rfl
@[simp] theorem setActive_calCount (now : Word) : (setActive s now).calCount = s.calCount := rfl
@[simp] theorem setActive_detState (now : Word) : (setActive s now).detState = .active := rfl
@[simp] theorem setActive_actTime (now : Word) : (setActive s now).actTime = now := rfl
@[simp] theorem setActive_deactTime (now : Word) : (setActive s now).deactTime = s.deactTime := rfl
@[simp] theorem setActive_debPending (now : Word) : (setActive s now).debPending = s.debPending := rfl
@[simp] theorem setActive_amplitude (now : Word) : (setActive s now).amplitude = s.amplitude := rfl
@[simp] theorem setActive_pix (now : Word) : (setActive s now).pix = s.pix := rfl
@[simp] theorem setActive_frames (now : Word) : (setActive s now).frames = s.frames := rfl
@[simp] theorem setActive_statusLed (now : Word) : (setActive s now).statusLed = s.statusLed := rfl
@[simp] theorem setActive_indLed (now : Word) : (setActive s now).indLed = s.indLed := rfl
@[simp] theorem setActive_duty (now : Word) : (setActive s now).duty = s.duty := rfl
@[simp] theorem setActive_faulted (now : Word) : (setActive s now).faulted = s.faulted := rfl
@[simp] theorem setActive_faultCode (now : Word) : (setActive s now).faultCode = s.faultCode := rfl
@[simp] theorem setActive_faultOp (now : Word) : (setActive s now).faultOp = s.faultOp := rfl
@[simp] theorem setActive_faultInfo (now : Word) : (setActive s now).faultInfo = s.faultInfo := rfl
@[simp] theorem setActive_out (now : Word) : (setActive s now).out = s.out := rfl
@[simp] theorem setActive_responses (now : Word) : (setActive s now).responses = s.responses := rfl
@[simp] theorem setActive_inputs (now : Word) : (setActive s now).inputs = s.inputs := rfl

/-! ## setIdle -/

@[simp] theorem setIdle_cfg (now : Word) : (setIdle s now).cfg = s.cfg := rfl
@[simp] theorem setIdle_ring (now : Word) : (setIdle s now).ring = s.ring := rfl
@[simp] theorem setIdle_cursor (now : Word) : (setIdle s now).cursor = s.cursor := rfl
@[simp] theorem setIdle_smoothed (now : Word) : (setIdle s now).smoothed = s.smoothed := rfl
@[simp] theorem setIdle_offset (now : Word) : (setIdle s now).offset = s.offset := rfl
@[simp] theorem setIdle_calDone (now : Word) : (setIdle s now).calDone = s.calDone := rfl
@[simp] theorem setIdle_calActive (now : Word) : (setIdle s now).calActive = s.calActive := rfl
@[simp] theorem setIdle_calAcc (now : Word) : (setIdle s now).calAcc = s.calAcc := rfl
@[simp] theorem setIdle_calRemain (now : Word) : (setIdle s now).calRemain = s.calRemain := rfl
@[simp] theorem setIdle_calCount (now : Word) : (setIdle s now).calCount = s.calCount := rfl
@[simp] theorem setIdle_detState (now : Word) : (setIdle s now).detState = .idle := rfl
@[simp] theorem setIdle_actTime (now : Word) : (setIdle s now).actTime = s.actTime := rfl
@[simp] theorem setIdle_deactTime (now : Word) : (setIdle s now).deactTime = now := rfl
@[simp] theorem setIdle_debPending (now : Word) : (setIdle s now).debPending = true := rfl
@[simp] theorem setIdle_amplitude (now : Word) : (setIdle s now).amplitude = s.amplitude := rfl
@[simp] theorem setIdle_pix (now : Word) : (setIdle s now).pix = s.pix := rfl
@[simp] theorem setIdle_frames (now : Word) : (setIdle s now).frames = s.frames := rfl
@[simp] theorem setIdle_statusLed (now : Word) : (setIdle s now).statusLed = s.statusLed := rfl
@[simp] theorem setIdle_indLed (now : Word) : (setIdle s now).indLed = s.indLed := rfl
@[simp] theorem setIdle_duty (now : Word) : (setIdle s now).duty = s.duty := rfl
@[simp] theorem setIdle_faulted (now : Word) : (setIdle s now).faulted = s.faulted := rfl
@[simp] theorem setIdle_faultCode (now : Word) : (setIdle s now).faultCode = s.faultCode := rfl
@[simp] theorem setIdle_faultOp (now : Word) : (setIdle s now).faultOp = s.faultOp := rfl
@[simp] theorem setIdle_faultInfo (now : Word) : (setIdle s now).faultInfo = s.faultInfo := rfl
@[simp] theorem setIdle_out (now : Word) : (setIdle s now).out = s.out := rfl
@[simp] theorem setIdle_responses (now : Word) : (setIdle s now).responses = s.responses := rfl
@[simp] theorem setIdle_inputs (now : Word) : (setIdle s now).inputs = s.inputs := rfl

/-! ## writeAmplitude -/

@[simp] theorem writeAmplitude_cfg : (writeAmplitude s).cfg = s.cfg := rfl
@[simp] theorem writeAmplitude_ring : (writeAmplitude s).ring = s.ring := rfl
@[simp] theorem writeAmplitude_cursor : (writeAmplitude s).cursor = s.cursor := rfl
@[simp] theorem writeAmplitude_smoothed : (writeAmplitude s).smoothed = s.smoothed := rfl
@[simp] theorem writeAmplitude_offset : (writeAmplitude s).offset = s.offset := rfl
@[simp] theorem writeAmplitude_calDone : (writeAmplitude s).calDone = s.calDone := rfl
@[simp] theorem writeAmplitude_calActive : (writeAmplitude s).calActive = s.calActive := rfl
@[simp] theorem writeAmplitude_calAcc : (writeAmplitude s).calAcc = s.calAcc := rfl
@[simp] theorem writeAmplitude_calRemain : (writeAmplitude s).calRemain = s.calRemain := rfl
@[simp] theorem writeAmplitude_calCount : (writeAmplitude s).calCount = s.calCount := rfl
@[simp] theorem writeAmplitude_detState : (writeAmplitude s).detState = s.detState := rfl
@[simp] theorem writeAmplitude_actTime : (writeAmplitude s).actTime = s.actTime := rfl
@[simp] theorem writeAmplitude_deactTime : (writeAmplitude s).deactTime = s.deactTime := rfl
@[simp] theorem writeAmplitude_debPending : (writeAmplitude s).debPending = s.debPending := rfl
@[simp] theorem writeAmplitude_amplitude : (writeAmplitude s).amplitude = BitVec.ofNat 32 (amplitudeOf s) := rfl
@[simp] theorem writeAmplitude_pix : (writeAmplitude s).pix = s.pix := rfl
@[simp] theorem writeAmplitude_frames : (writeAmplitude s).frames = s.frames := rfl
@[simp] theorem writeAmplitude_statusLed : (writeAmplitude s).statusLed = s.statusLed := rfl
@[simp] theorem writeAmplitude_indLed : (writeAmplitude s).indLed = s.indLed := rfl
@[simp] theorem writeAmplitude_duty : (writeAmplitude s).duty = s.duty := rfl
@[simp] theorem writeAmplitude_faulted : (writeAmplitude s).faulted = s.faulted := rfl
@[simp] theorem writeAmplitude_faultCode : (writeAmplitude s).faultCode = s.faultCode := rfl
@[simp] theorem writeAmplitude_faultOp : (writeAmplitude s).faultOp = s.faultOp := rfl
@[simp] theorem writeAmplitude_faultInfo : (writeAmplitude s).faultInfo = s.faultInfo := rfl
@[simp] theorem writeAmplitude_out : (writeAmplitude s).out = s.out := rfl
@[simp] theorem writeAmplitude_responses : (writeAmplitude s).responses = s.responses := rfl
@[simp] theorem writeAmplitude_inputs : (writeAmplitude s).inputs = s.inputs := rfl

/-! ## takeInput -/

@[simp] theorem takeInput_cfg : (takeInput s).cfg = s.cfg := rfl
@[simp] theorem takeInput_ring : (takeInput s).ring = s.ring := rfl
@[simp] theorem takeInput_cursor : (takeInput s).cursor = s.cursor := rfl
@[simp] theorem takeInput_smoothed : (takeInput s).smoothed = s.smoothed := rfl
@[simp] theorem takeInput_offset : (takeInput s).offset = s.offset := rfl
@[simp] theorem takeInput_calDone : (takeInput s).calDone = s.calDone := rfl
@[simp] theorem takeInput_calActive : (takeInput s).calActive = s.calActive := rfl
@[simp] theorem takeInput_calAcc : (takeInput s).calAcc = s.calAcc := rfl
@[simp] theorem takeInput_calRemain : (takeInput s).calRemain = s.calRemain := rfl
@[simp] theorem takeInput_calCount : (takeInput s).calCount = s.calCount := rfl
@[simp] theorem takeInput_detState : (takeInput s).detState = s.detState := rfl
@[simp] theorem takeInput_actTime : (takeInput s).actTime = s.actTime := rfl
@[simp] theorem takeInput_deactTime : (takeInput s).deactTime = s.deactTime := rfl
@[simp] theorem takeInput_debPending : (takeInput s).debPending = s.debPending := rfl
@[simp] theorem takeInput_amplitude : (takeInput s).amplitude = s.amplitude := rfl
@[simp] theorem takeInput_pix : (takeInput s).pix = s.pix := rfl
@[simp] theorem takeInput_frames : (takeInput s).frames = s.frames := rfl
@[simp] theorem takeInput_statusLed : (takeInput s).statusLed = s.statusLed := rfl
@[simp] theorem takeInput_indLed : (takeInput s).indLed = s.indLed := rfl
@[simp] theorem takeInput_duty : (takeInput s).duty = s.duty := rfl
@[simp] theorem takeInput_faulted : (takeInput s).faulted = s.faulted := rfl
@[simp] theorem takeInput_faultCode : (takeInput s).faultCode = s.faultCode := rfl
@[simp] theorem takeInput_faultOp : (takeInput s).faultOp = s.faultOp := rfl
@[simp] theorem takeInput_faultInfo : (takeInput s).faultInfo = s.faultInfo := rfl
@[simp] theorem takeInput_out : (takeInput s).out = s.out := rfl
@[simp] theorem takeInput_responses : (takeInput s).responses = s.responses := rfl
@[simp] theorem takeInput_inputs : (takeInput s).inputs = s.inputs.tail := rfl

end Sys2Proof.Machine
end

