-- ==== Sys2Proof/Laws/Ops.lean ====
section
/-! SUPPORT. What the shared operations can do, said once: the fault checks of each command, the execution cycle, the
stores, the edges and the tick. Proofs cite these lemmas and do not unfold the operations. -/

namespace Sys2Proof.Machine

open Sys2Proof

/-! ## The fault checks, command by command (30_encoding.md R96) -/

theorem faultOf_nop (s : State) : faultOf .nop s = none := by
  simp [faultOf, sampleOf, errOf, countOf, indexOf, runsInCalibration, Instr.op]

theorem faultOf_rdreg (addr : Half) (s : State) : faultOf (.rdreg addr) s = none := by
  simp [faultOf, sampleOf, errOf, countOf, indexOf, runsInCalibration, Instr.op]

theorem faultOf_calStart (count : Half) (s : State) :
    faultOf (.calStart count) s =
      if s.calActive then some (.calSequence, 1)
      else if s.calDone then some (.recalibration, 0)
      else if count = 0 then some (.calCountZero, 0) else none := by
  simp [faultOf, sampleOf, errOf, countOf, indexOf, runsInCalibration, Instr.op]

theorem faultOf_calSample (err : Bool) (raw : Half) (s : State) :
    faultOf (.calSample err raw) s =
      if 2 ^ s.cfg.sw ≤ raw.toNat then some (.illegalCommand, 3)
      else if s.calActive = false then some (.calSequence, 2)
      else if err then some (.acquisitionFailure, 0) else none := by
  cases err <;> simp [faultOf, sampleOf, errOf, countOf, indexOf, runsInCalibration, Instr.op, IllegalWord.info]

theorem faultOf_push (err : Bool) (raw : Half) (s : State) :
    faultOf (.push err raw) s =
      if 2 ^ s.cfg.sw ≤ raw.toNat then some (.illegalCommand, 3)
      else if s.calActive then some (.calSequence, 1)
      else if err then some (.acquisitionFailure, 0) else none := by
  cases err <;> simp [faultOf, sampleOf, errOf, countOf, indexOf, runsInCalibration, Instr.op, IllegalWord.info]

theorem faultOf_tick (now : Word) (s : State) :
    faultOf (.tick now) s =
      if s.calActive then some (.calSequence, 1)
      else if s.calDone = false then some (.notCalibrated, 0) else none := by
  simp [faultOf, sampleOf, errOf, countOf, indexOf, runsInCalibration, Instr.op]

theorem faultOf_step (err : Bool) (raw : Half) (now : Word) (s : State) :
    faultOf (.step err raw now) s =
      if 2 ^ s.cfg.sw ≤ raw.toNat then some (.illegalCommand, 3)
      else if s.calActive then some (.calSequence, 1)
      else if s.calDone = false then some (.notCalibrated, 0)
      else if err then some (.acquisitionFailure, 0) else none := by
  cases err <;> simp [faultOf, sampleOf, errOf, countOf, indexOf, runsInCalibration, Instr.op, IllegalWord.info]

theorem faultOf_pixSet (index r g b : Byte) (s : State) :
    faultOf (.pixSet index r g b) s =
      if s.calActive then some (.calSequence, 1)
      else if s.cfg.npix ≤ index.toNat then some (.indexOutOfRange, index.setWidth 16) else none := by
  simp [faultOf, sampleOf, errOf, countOf, indexOf, runsInCalibration, Instr.op]

theorem faultOf_pixClear (s : State) :
    faultOf .pixClear s = if s.calActive then some (.calSequence, 1) else none := by
  simp [faultOf, sampleOf, errOf, countOf, indexOf, runsInCalibration, Instr.op]

theorem faultOf_pixFlush (s : State) :
    faultOf .pixFlush s = if s.calActive then some (.calSequence, 1) else none := by
  simp [faultOf, sampleOf, errOf, countOf, indexOf, runsInCalibration, Instr.op]

/-! ## The execution cycle -/

theorem issue_ignored {i : Instr} {s : State} (p : State → Result) (hf : s.faulted = true) (hi : i.op ≠ .rdreg) :
    issue i p s = .next (s.respond .ignored 0) := by
  simp [issue, hf, hi]

theorem issue_raises {i : Instr} {s : State} {f : FaultKind} {info : Half} (p : State → Result)
    (hf : s.faulted = false) (h : faultOf i s = some (f, info)) :
    issue i p s = .next (raiseFault s f i.op.code info) := by
  simp [issue, hf, h]

theorem issue_performs {i : Instr} {s : State} (p : State → Result) (hf : s.faulted = false)
    (h : faultOf i s = none) : issue i p s = p s := by
  simp [issue, hf, h]

theorem issue_rdreg {addr : Half} {s : State} (p : State → Result) : issue (.rdreg addr) p s = p s := by
  simp [issue, faultOf_rdreg, Instr.op]

/-- Everything a command can come to: it is ignored, it faults, or it is performed. -/
theorem issue_cases (i : Instr) (p : State → Result) (s : State) :
    (s.faulted = true ∧ i.op ≠ .rdreg ∧ issue i p s = .next (s.respond .ignored 0)) ∨
    (s.faulted = false ∧ ∃ f info, faultOf i s = some (f, info) ∧
      issue i p s = .next (raiseFault s f i.op.code info)) ∨
    ((s.faulted = false ∨ i.op = .rdreg) ∧ faultOf i s = none ∧ issue i p s = p s) := by
  by_cases hi : i.op = .rdreg
  · obtain ⟨addr, rfl⟩ : ∃ addr, i = .rdreg addr := by
      cases i <;> simp [Instr.op] at hi ⊢
    exact .inr (.inr ⟨.inr rfl, faultOf_rdreg addr s, issue_rdreg p⟩)
  · cases hf : s.faulted
    · cases h : faultOf i s with
      | none => exact .inr (.inr ⟨.inl rfl, rfl, issue_performs p hf h⟩)
      | some x => exact .inr (.inl ⟨rfl, x.1, x.2, rfl, issue_raises p hf h⟩)
    · exact .inl ⟨rfl, hi, issue_ignored p hf hi⟩

theorem issueIllegal_faulted {s : State} (why : IllegalWord) (op : BitVec 4) (hf : s.faulted = true) :
    issueIllegal why op s = s.respond .ignored 0 := by
  simp [issueIllegal, hf]

theorem issueIllegal_raises {s : State} (why : IllegalWord) (op : BitVec 4) (hf : s.faulted = false) :
    issueIllegal why op s = raiseFault s .illegalCommand op why.info := by
  simp [issueIllegal, hf]

theorem withRing_present {s : State} (k : State → Result) (h : RingPresent s) : withRing s k = k s := if_pos h

theorem withPixels_present {s : State} (k : State → Result) (h : PixelsPresent s) : withPixels s k = k s := if_pos h

theorem withRing_next {s t : State} {k : State → Result} (h : withRing s k = .next t) :
    RingPresent s ∧ k s = .next t := by
  unfold withRing at h
  split at h
  · exact ⟨‹_›, h⟩
  · cases h

theorem withPixels_next {s t : State} {k : State → Result} (h : withPixels s k = .next t) :
    PixelsPresent s ∧ k s = .next t := by
  unfold withPixels at h
  split at h
  · exact ⟨‹_›, h⟩
  · cases h

/-! ## Stores -/

@[simp] theorem paint_length (pix : List Colour) (table : List PatternEntry) :
    (paint pix table).length = pix.length := by
  unfold paint
  induction table generalizing pix with
  | nil => rfl
  | cons e es ih => simp [ih]

@[simp] theorem paint_nil (pix : List Colour) : paint pix [] = pix := rfl

@[simp] theorem paint_cons (pix : List Colour) (e : PatternEntry) (es : List PatternEntry) :
    paint pix (e :: es) = paint (pix.set e.index e.colour) es := rfl

@[simp] theorem frameBytes_length (pix : List Colour) : (frameBytes pix).length = 3 * pix.length := by
  unfold frameBytes
  induction pix with
  | nil => rfl
  | cons c cs ih => simp [wireBytes, ih]; omega

/-- The sum of samples below 2^sw, divided by their number, is below 2^sw (10_state.md R24). -/
theorem ringSum_le (ring : List Half) (b : Nat) (h : ∀ v ∈ ring, v.toNat ≤ b) : ringSum ring ≤ ring.length * b := by
  unfold ringSum
  induction ring with
  | nil => simp
  | cons v vs ih =>
    have h1 := h v (by simp)
    have h2 := ih fun x hx => h x (by simp [hx])
    simp only [List.map_cons, List.sum_cons, List.length_cons, Nat.add_mul, Nat.one_mul]
    omega

theorem ringSum_replicate_zero (n : Nat) : ringSum (List.replicate n 0) = 0 := by
  simp [ringSum]

/-! ## The calibration sample -/

/-- A calibration sample that is not the last one (40_smoother.md R114). -/
theorem takeCalibrationSample_more {s : State} {raw : Half} (h : s.calRemain - 1 ≠ 0) :
    takeCalibrationSample s raw =
      { s with calAcc := s.calAcc + raw.setWidth 32, calRemain := s.calRemain - 1 } := if_neg h

/-- The calibration sample that completes calibration (40_smoother.md R114, R115). -/
theorem takeCalibrationSample_last {s : State} {raw : Half} (h : s.calRemain - 1 = 0) :
    takeCalibrationSample s raw =
      completeCalibration { s with calAcc := s.calAcc + raw.setWidth 32, calRemain := s.calRemain - 1 } := if_pos h

/-- What a calibration sample can write. -/
theorem takeCalibrationSample_frame (s : State) (raw : Half) :
    takeCalibrationSample s raw =
      { s with
        calAcc := s.calAcc + raw.setWidth 32
        calRemain := s.calRemain - 1
        offset := (takeCalibrationSample s raw).offset
        calDone := (takeCalibrationSample s raw).calDone
        calActive := (takeCalibrationSample s raw).calActive } := by
  by_cases h : s.calRemain - 1 = 0
  · rw [takeCalibrationSample_last h]; rfl
  · rw [takeCalibrationSample_more h]

/-! ## Renders, edges and the tick -/

theorem render_eq (s : State) (table : List PatternEntry) :
    render s table =
      { s with
        pix := paint s.pix table
        out := s.out ++ [.frame (frameBytes (paint s.pix table))]
        frames := s.frames + 1 } := rfl

theorem activate_eq (s : State) (now : Word) :
    activate s now =
      { s with
        detState := .active
        actTime := now
        statusLed := true
        indLed := false
        pix := paint s.pix s.cfg.alarm
        frames := s.frames + 1
        duty := BitVec.ofNat 32 s.cfg.toneLevel
        out := s.out ++ [.statusLed true] ++ [.indLed false] ++ [.frame (frameBytes (paint s.pix s.cfg.alarm))] ++
          [.duty (BitVec.ofNat 32 s.cfg.toneLevel)] } := by
  ext <;> simp [activate, render, toneOn]

theorem deactivate_eq (s : State) (now : Word) :
    deactivate s now =
      { s with
        detState := .idle
        deactTime := now
        debPending := true
        indLed := false
        statusLed := true
        pix := List.replicate s.cfg.npix Colour.black
        frames := s.frames + 1
        duty := 0
        out := s.out ++ [.indLed false] ++ [.statusLed true] ++
          [.frame (frameBytes (List.replicate s.cfg.npix Colour.black))] ++ [.duty 0] } := by
  ext <;> simp [deactivate, toneOff]

theorem settleGate_open {s : State} {now : Word} (h : gateOpen s now = true) :
    settleGate s now = { s with debPending := false } := if_pos h

theorem settleGate_closed {s : State} {now : Word} (h : gateOpen s now = false) : settleGate s now = s :=
  if_neg (by simp [h])

theorem gateOpen_writeAmplitude (s : State) (now : Word) : gateOpen (writeAmplitude s) now = gateOpen s now := rfl

theorem settleGate_detState (s : State) (now : Word) : (settleGate s now).detState = s.detState := by
  unfold settleGate; split <;> rfl

theorem settleGate_cfg (s : State) (now : Word) : (settleGate s now).cfg = s.cfg := by
  unfold settleGate; split <;> rfl

theorem settleGate_actTime (s : State) (now : Word) : (settleGate s now).actTime = s.actTime := by
  unfold settleGate; split <;> rfl

/-- What a tick does in each row of the transition table (41_detection.md R135), in terms of the edges and the render:
`u` is the state after steps 1 and 2. -/
theorem tickState_cases (s : State) (now : Word) :
    let u := settleGate (writeAmplitude s) now
    (s.detState = .idle ∧ gateOpen s now = false ∧ tickState s now = u) ∨
    (s.detState = .idle ∧ gateOpen s now = true ∧ amplitudeOf s ≤ s.cfg.threshold ∧
      tickState s now = render u s.cfg.idle) ∨
    (s.detState = .idle ∧ gateOpen s now = true ∧ s.cfg.threshold < amplitudeOf s ∧ 1 ≤ s.cfg.hold ∧
      tickState s now = activate u now) ∨
    (s.detState = .idle ∧ gateOpen s now = true ∧ s.cfg.threshold < amplitudeOf s ∧ s.cfg.hold = 0 ∧
      tickState s now = deactivate (activate u now) now) ∨
    (s.detState = .active ∧ held s now = false ∧ tickState s now = u) ∨
    (s.detState = .active ∧ held s now = true ∧ tickState s now = deactivate u now) := by
  intro u
  have hd : u.detState = s.detState := settleGate_detState _ _
  have hc : u.cfg = s.cfg := settleGate_cfg _ _
  have ha : u.actTime = s.actTime := settleGate_actTime _ _
  have hh : held u now = held s now := by simp only [held, hc, ha]
  have ht : tickState s now = holdStep (idleStep u (gateOpen s now) (amplitudeOf s) now) now := rfl
  have hact : held (activate u now) now = decide (s.cfg.hold = 0) := by
    simp [held, activate_eq, elapsed, hc]
  rw [ht]
  cases hs : s.detState
  · cases hg : gateOpen s now
    · left
      simp [idleStep, holdStep, hd, hs]
    · right
      by_cases hth : s.cfg.threshold < amplitudeOf s
      · right
        by_cases hz : s.cfg.hold = 0
        · right; left
          refine ⟨rfl, rfl, hth, hz, ?_⟩
          have h1 : idleStep u true (amplitudeOf s) now = activate u now := by
            simp [idleStep, hd, hs, hc, hth]
          rw [h1, holdStep, hact, if_pos ⟨rfl, by simp [hz]⟩]
        · left
          refine ⟨rfl, rfl, hth, by omega, ?_⟩
          have h1 : idleStep u true (amplitudeOf s) now = activate u now := by
            simp [idleStep, hd, hs, hc, hth]
          rw [h1, holdStep, hact, if_neg (by simp [hz])]
      · left
        refine ⟨rfl, rfl, by omega, ?_⟩
        have h1 : idleStep u true (amplitudeOf s) now = render u s.cfg.idle := by
          simp [idleStep, hd, hs, hc, hth]
        rw [h1, holdStep, if_neg (by simp [render_eq, hd, hs])]
  · right; right; right; right
    have h1 : idleStep u (gateOpen s now) (amplitudeOf s) now = u := by
      simp [idleStep, hd, hs]
    rw [h1, holdStep, hh, hd, hs]
    cases hl : held s now
    · left; simp
    · right; simp

/-- What a tick can write: every field it leaves alone is the old one, and AMPLITUDE is written on every tick
(10_state.md R35). -/
theorem tickState_frame (s : State) (now : Word) :
    tickState s now =
      { s with
        amplitude := BitVec.ofNat 32 (amplitudeOf s)
        detState := (tickState s now).detState
        actTime := (tickState s now).actTime
        deactTime := (tickState s now).deactTime
        debPending := (tickState s now).debPending
        pix := (tickState s now).pix
        frames := (tickState s now).frames
        statusLed := (tickState s now).statusLed
        indLed := (tickState s now).indLed
        duty := (tickState s now).duty
        out := (tickState s now).out } := by
  have hu : settleGate (writeAmplitude s) now =
      { s with
        amplitude := BitVec.ofNat 32 (amplitudeOf s)
        debPending := if gateOpen s now then false else s.debPending } := by
    unfold settleGate
    rw [gateOpen_writeAmplitude]
    split <;> rfl
  rcases tickState_cases s now with h | h | h | h | h | h
  · rw [h.2.2, hu]
  · rw [h.2.2.2, hu, render_eq]
  · rw [h.2.2.2.2, hu, activate_eq]
  · rw [h.2.2.2.2, hu, activate_eq, deactivate_eq]
  · rw [h.2.2, hu]
  · rw [h.2.2, hu, deactivate_eq]

@[simp] theorem tickState_cfg (s : State) (now : Word) : (tickState s now).cfg = s.cfg := by
  rw [tickState_frame]

@[simp] theorem tickState_ring (s : State) (now : Word) : (tickState s now).ring = s.ring := by
  rw [tickState_frame]

@[simp] theorem tickState_cursor (s : State) (now : Word) : (tickState s now).cursor = s.cursor := by
  rw [tickState_frame]

@[simp] theorem tickState_smoothed (s : State) (now : Word) : (tickState s now).smoothed = s.smoothed := by
  rw [tickState_frame]

@[simp] theorem tickState_offset (s : State) (now : Word) : (tickState s now).offset = s.offset := by
  rw [tickState_frame]

@[simp] theorem tickState_calDone (s : State) (now : Word) : (tickState s now).calDone = s.calDone := by
  rw [tickState_frame]

@[simp] theorem tickState_calActive (s : State) (now : Word) : (tickState s now).calActive = s.calActive := by
  rw [tickState_frame]

@[simp] theorem tickState_calAcc (s : State) (now : Word) : (tickState s now).calAcc = s.calAcc := by
  rw [tickState_frame]

@[simp] theorem tickState_calRemain (s : State) (now : Word) : (tickState s now).calRemain = s.calRemain := by
  rw [tickState_frame]

@[simp] theorem tickState_calCount (s : State) (now : Word) : (tickState s now).calCount = s.calCount := by
  rw [tickState_frame]

@[simp] theorem tickState_faulted (s : State) (now : Word) : (tickState s now).faulted = s.faulted := by
  rw [tickState_frame]

@[simp] theorem tickState_faultCode (s : State) (now : Word) : (tickState s now).faultCode = s.faultCode := by
  rw [tickState_frame]

@[simp] theorem tickState_faultOp (s : State) (now : Word) : (tickState s now).faultOp = s.faultOp := by
  rw [tickState_frame]

@[simp] theorem tickState_faultInfo (s : State) (now : Word) : (tickState s now).faultInfo = s.faultInfo := by
  rw [tickState_frame]

@[simp] theorem tickState_responses (s : State) (now : Word) : (tickState s now).responses = s.responses := by
  rw [tickState_frame]

@[simp] theorem tickState_inputs (s : State) (now : Word) : (tickState s now).inputs = s.inputs := by
  rw [tickState_frame]

@[simp] theorem tickState_amplitude (s : State) (now : Word) :
    (tickState s now).amplitude = BitVec.ofNat 32 (amplitudeOf s) := by
  rw [tickState_frame]

/-! ## A response given before a tick does not change the tick -/

theorem settleGate_respond (s : State) (now : Word) (rc : RespCode) (d : Word) :
    settleGate (s.respond rc d) now = (settleGate s now).respond rc d := by
  unfold settleGate
  rw [show gateOpen (s.respond rc d) now = gateOpen s now from rfl]
  split <;> rfl

theorem activate_respond (s : State) (now : Word) (rc : RespCode) (d : Word) :
    activate (s.respond rc d) now = (activate s now).respond rc d := by
  rw [activate_eq, activate_eq]
  rfl

theorem deactivate_respond (s : State) (now : Word) (rc : RespCode) (d : Word) :
    deactivate (s.respond rc d) now = (deactivate s now).respond rc d := by
  rw [deactivate_eq, deactivate_eq]
  rfl

theorem idleStep_respond (s : State) (gate : Bool) (amp : Nat) (now : Word) (rc : RespCode) (d : Word) :
    idleStep (s.respond rc d) gate amp now = (idleStep s gate amp now).respond rc d := by
  unfold idleStep
  by_cases h : s.detState = .idle ∧ gate = true
  · rw [if_pos (by simpa using h), if_pos h]
    by_cases ht : s.cfg.threshold < amp
    · rw [if_pos (by simpa using ht), if_pos ht, activate_respond]
    · rw [if_neg (by simpa using ht), if_neg ht, render_eq, render_eq]
      rfl
  · rw [if_neg (by simpa using h), if_neg h]

theorem holdStep_respond (s : State) (now : Word) (rc : RespCode) (d : Word) :
    holdStep (s.respond rc d) now = (holdStep s now).respond rc d := by
  have hh : held (s.respond rc d) now = held s now := rfl
  unfold holdStep
  by_cases h : s.detState = .active ∧ held s now = true
  · rw [if_pos (by simpa [hh] using h), if_pos h, deactivate_respond]
  · rw [if_neg (by simpa [hh] using h), if_neg h]

theorem tickState_respond (s : State) (now : Word) (rc : RespCode) (d : Word) :
    tickState (s.respond rc d) now = (tickState s now).respond rc d := by
  unfold tickState
  rw [show writeAmplitude (s.respond rc d) = (writeAmplitude s).respond rc d from rfl, settleGate_respond,
    idleStep_respond, holdStep_respond]
  rfl

/-! ## The step -/

theorem step_wait {s : State} (h : pending s = .wait) : step s = .next s := by
  simp [step, h]

theorem step_reset {s : State} (h : pending s = .reset) : step s = .next (resetBlock (takeInput s)) := by
  simp [step, h]

theorem step_run {s : State} {i : Instr} (h : pending s = .run i) : step s = exec i (takeInput s) := by
  simp [step, h]

theorem step_illegal {s : State} {why : IllegalWord} {op : BitVec 4} (h : pending s = .illegal why op) :
    step s = .next (issueIllegal why op (takeInput s)) := by
  simp [step, h]

end Sys2Proof.Machine
end

