-- ==== Sys2Proof/Laws/Exec.lean ====
section
/-! SUPPORT. What exec and step can do, said once: a command is ignored, faults, or is performed; a step waits, resets,
runs a command, or takes a word that does not decode. -/

namespace Sys2Proof.Machine

open Sys2Proof

/-! ## Registers -/

/-- An address of the scalar registers names no ring slot and no pixel (10_state.md R44 to R47). -/
theorem scalarMap_lookup {a : Nat} {r : Reg} (h : scalarMap.lookup a = some r) :
    (∀ i, r ≠ .ringSlot i) ∧ ∀ i, r ≠ .pixel i := by
  simp only [scalarMap, List.lookup] at h
  repeat' split at h
  all_goals cases h
  all_goals exact ⟨nofun, nofun⟩

/-- A ring slot that an address names is one of the W (10_state.md R48). -/
theorem regAt_ringSlot {c : Cfg} {addr : Half} {i : Nat} (h : regAt c addr = some (.ringSlot i)) : i < c.w := by
  simp only [regAt] at h
  split_ifs at h with h1 h2 h3 h4
  · exact absurd rfl ((scalarMap_lookup h).1 i)
  · simp only [Option.some.injEq, Reg.ringSlot.injEq] at h
    omega
  · simp at h

/-- A pixel that an address names is one of the NPIX (10_state.md R49). -/
theorem regAt_pixel {c : Cfg} {addr : Half} {i : Nat} (h : regAt c addr = some (.pixel i)) : i < c.npix := by
  simp only [regAt] at h
  split_ifs at h with h1 h2 h3 h4
  · exact absurd rfl ((scalarMap_lookup h).2 i)
  · simp at h
  · simp only [Option.some.injEq, Reg.pixel.injEq] at h
    omega

/-- A register that an address names can be read where the stores are there. -/
theorem readReg_ok {s : State} (hr : s.ring.length = s.cfg.w) (hp : s.pix.length = s.cfg.npix) {addr : Half} {r : Reg}
    (h : regAt s.cfg addr = some r) : ∃ v, readReg s r = .ok v := by
  cases r with
  | ringSlot i =>
    have hi : i < s.ring.length := hr ▸ regAt_ringSlot h
    exact ⟨_, by simp [readReg, hi]; rfl⟩
  | pixel i =>
    have hi : i < s.pix.length := hp ▸ regAt_pixel h
    exact ⟨_, by simp [readReg, hi]; rfl⟩
  | _ => exact ⟨_, rfl⟩

theorem exec_rdreg_mapped {s : State} {addr : Half} {r : Reg} {v : Word} (h : regAt s.cfg addr = some r)
    (hv : readReg s r = .ok v) : exec (.rdreg addr) s = .next (s.respond .ok v) := by
  simp [exec, execRdreg, issue_rdreg, h, hv]

theorem exec_rdreg_unmapped {s : State} {addr : Half} (h : regAt s.cfg addr = none) :
    exec (.rdreg addr) s = .next (s.respond .badreg 0) := by
  simp [exec, execRdreg, issue_rdreg, h]

/-! ## One command -/

/-- Every command goes through the execution cycle of 30_encoding.md R96. -/
theorem exec_eq_issue (i : Instr) : ∃ p : State → Result, ∀ s, exec i s = issue i p s := by
  cases i <;> exact ⟨_, fun s => rfl⟩

theorem exec_ignored {i : Instr} {s : State} (hf : s.faulted = true) (hi : i.op ≠ .rdreg) :
    exec i s = .next (s.respond .ignored 0) := by
  obtain ⟨p, hp⟩ := exec_eq_issue i
  rw [hp, issue_ignored p hf hi]

theorem exec_raises {i : Instr} {s : State} {f : FaultKind} {info : Half} (hf : s.faulted = false)
    (h : faultOf i s = some (f, info)) : exec i s = .next (raiseFault s f i.op.code info) := by
  obtain ⟨p, hp⟩ := exec_eq_issue i
  rw [hp, issue_raises p hf h]

/-- The next state of a command that is performed, with what the stores must be for it. -/
def Performs : Instr → State → State → Prop
  | .nop, s, t => t = s.respond .ok 0
  | .calStart count, s, t => t = (startCalibration s count).respond .ok 0
  | .calSample _ raw, s, t =>
    t = (takeCalibrationSample s raw).respond .ok ((takeCalibrationSample s raw).offset.setWidth 32)
  | .push _ raw, s, t =>
    RingPresent s ∧ t = (pushSample s raw).respond .ok ((pushSample s raw).smoothed.setWidth 32)
  | .tick now, s, t => PixelsPresent s ∧ t = (tickState s now).respond .ok (tickState s now).amplitude
  | .step _ raw now, s, t =>
    RingPresent s ∧ PixelsPresent s ∧
      t = (tickState (pushSample s raw) now).respond .ok (tickState (pushSample s raw) now).amplitude
  | .pixSet index r g b, s, t => PixelsPresent s ∧ t = (setPixel s index.toNat ⟨r, g, b⟩).respond .ok 0
  | .pixClear, s, t => PixelsPresent s ∧ t = (clearAll s).respond .ok 0
  | .pixFlush, s, t => PixelsPresent s ∧ t = (flush s).respond .ok 0
  | .rdreg addr, s, t =>
    (regAt s.cfg addr = none ∧ t = s.respond .badreg 0) ∨
      ∃ r v, regAt s.cfg addr = some r ∧ readReg s r = .ok v ∧ t = s.respond .ok v

/-- Where a command is performed, its effect completes. -/
theorem exec_performs {i : Instr} {s t : State} (hf : s.faulted = false ∨ i.op = .rdreg) (h : faultOf i s = none)
    (hp : Performs i s t) : exec i s = .next t := by
  cases i with
  | rdreg addr =>
    rcases hp with ⟨hr, rfl⟩ | ⟨r, v, hr, hv, rfl⟩
    · exact exec_rdreg_unmapped hr
    · exact exec_rdreg_mapped hr hv
  | nop =>
    simp [Instr.op] at hf
    cases hp
    rw [exec, execNop, issue_performs _ hf h]
  | calStart count =>
    simp [Instr.op] at hf
    cases hp
    rw [exec, execCalStart, issue_performs _ hf h]
  | calSample err raw =>
    simp [Instr.op] at hf
    cases hp
    rw [exec, execCalSample, issue_performs _ hf h]
  | push err raw =>
    simp [Instr.op] at hf
    obtain ⟨h1, rfl⟩ := hp
    rw [exec, execPush, issue_performs _ hf h, withRing_present _ h1]
  | tick now =>
    simp [Instr.op] at hf
    obtain ⟨h1, rfl⟩ := hp
    rw [exec, execTick, issue_performs _ hf h, withPixels_present _ h1]
  | step err raw now =>
    simp [Instr.op] at hf
    obtain ⟨h1, h2, rfl⟩ := hp
    rw [exec, execStep, issue_performs _ hf h, withRing_present _ h1, withPixels_present _ h2]
  | pixSet index r g b =>
    simp [Instr.op] at hf
    obtain ⟨h1, rfl⟩ := hp
    rw [exec, execPixSet, issue_performs _ hf h, withPixels_present _ h1]
  | pixClear =>
    simp [Instr.op] at hf
    obtain ⟨h1, rfl⟩ := hp
    rw [exec, execPixClear, issue_performs _ hf h, withPixels_present _ h1]
  | pixFlush =>
    simp [Instr.op] at hf
    obtain ⟨h1, rfl⟩ := hp
    rw [exec, execPixFlush, issue_performs _ hf h, withPixels_present _ h1]

/-- Everything a command can come to when it answers a next state: it is ignored, it faults, or it is performed. -/
theorem exec_cases {i : Instr} {s t : State} (h : exec i s = .next t) :
    (s.faulted = true ∧ i.op ≠ .rdreg ∧ t = s.respond .ignored 0) ∨
    (s.faulted = false ∧ ∃ f info, faultOf i s = some (f, info) ∧ t = raiseFault s f i.op.code info) ∨
    ((s.faulted = false ∨ i.op = .rdreg) ∧ faultOf i s = none ∧ Performs i s t) := by
  by_cases hi : i.op = .rdreg
  · obtain ⟨addr, rfl⟩ : ∃ addr, i = .rdreg addr := by
      cases i <;> simp [Instr.op] at hi ⊢
    refine .inr (.inr ⟨.inr rfl, faultOf_rdreg addr s, ?_⟩)
    cases hr : regAt s.cfg addr with
    | none =>
      rw [exec_rdreg_unmapped hr] at h
      cases h
      exact .inl ⟨hr, rfl⟩
    | some r =>
      cases hv : readReg s r with
      | ok v =>
        rw [exec_rdreg_mapped hr hv] at h
        cases h
        exact .inr ⟨r, v, hr, hv, rfl⟩
      | error f => simp [exec, execRdreg, issue_rdreg, hr, hv] at h
  cases hf : s.faulted
  · refine .inr ?_
    cases ho : faultOf i s with
    | some x =>
      rw [exec_raises hf ho] at h
      cases h
      exact .inl ⟨rfl, x.1, x.2, rfl, rfl⟩
    | none =>
      refine .inr ⟨.inl rfl, rfl, ?_⟩
      cases i with
      | rdreg addr => exact absurd rfl hi
      | nop => rw [exec, execNop, issue_performs _ hf ho] at h; cases h; rfl
      | calStart count => rw [exec, execCalStart, issue_performs _ hf ho] at h; cases h; rfl
      | calSample err raw => rw [exec, execCalSample, issue_performs _ hf ho] at h; cases h; rfl
      | push err raw =>
        rw [exec, execPush, issue_performs _ hf ho] at h
        obtain ⟨h1, h⟩ := withRing_next h
        cases h
        exact ⟨h1, rfl⟩
      | tick now =>
        rw [exec, execTick, issue_performs _ hf ho] at h
        obtain ⟨h1, h⟩ := withPixels_next h
        cases h
        exact ⟨h1, rfl⟩
      | step err raw now =>
        rw [exec, execStep, issue_performs _ hf ho] at h
        obtain ⟨h1, h⟩ := withRing_next h
        obtain ⟨h2, h⟩ := withPixels_next h
        cases h
        exact ⟨h1, h2, rfl⟩
      | pixSet index r g b =>
        rw [exec, execPixSet, issue_performs _ hf ho] at h
        obtain ⟨h1, h⟩ := withPixels_next h
        cases h
        exact ⟨h1, rfl⟩
      | pixClear =>
        rw [exec, execPixClear, issue_performs _ hf ho] at h
        obtain ⟨h1, h⟩ := withPixels_next h
        cases h
        exact ⟨h1, rfl⟩
      | pixFlush =>
        rw [exec, execPixFlush, issue_performs _ hf ho] at h
        obtain ⟨h1, h⟩ := withPixels_next h
        cases h
        exact ⟨h1, rfl⟩
  · rw [exec_ignored hf hi] at h
    cases h
    exact .inl ⟨rfl, hi, rfl⟩

/-! ## One step -/

/-- What the block finds before it, by the host's next input. -/
theorem pending_cases (s : State) :
    (s.inputs = [] ∧ pending s = .wait) ∨
    (∃ rest, s.inputs = .reset :: rest ∧ pending s = .reset ∧ takeInput s = { s with inputs := rest }) ∨
    (∃ cw rest i, s.inputs = .command cw :: rest ∧ decode s.cfg.sw cw = .cmd i ∧ pending s = .run i ∧
      takeInput s = { s with inputs := rest }) ∨
    (∃ cw rest why, s.inputs = .command cw :: rest ∧ decode s.cfg.sw cw = .illegal why ∧
      pending s = .illegal why (fieldOp cw) ∧ takeInput s = { s with inputs := rest }) := by
  rcases h : s.inputs with _ | ⟨x, rest⟩
  · exact .inl ⟨rfl, by simp [pending, h]⟩
  · have ht : takeInput s = { s with inputs := rest } := by simp [takeInput, h]
    cases x with
    | reset => exact .inr (.inl ⟨rest, rfl, by simp [pending, h], ht⟩)
    | command cw =>
      cases hd : decode s.cfg.sw cw with
      | cmd i => exact .inr (.inr (.inl ⟨cw, rest, i, rfl, hd, by simp [pending, h, hd], ht⟩))
      | illegal why => exact .inr (.inr (.inr ⟨cw, rest, why, rfl, hd, by simp [pending, h, hd], ht⟩))

/-- Everything a step can come to when it answers a next state. -/
theorem step_cases {s t : State} (h : step s = .next t) :
    (s.inputs = [] ∧ t = s) ∨
    (∃ rest, s.inputs = .reset :: rest ∧ t = { State.resetWith s.cfg with inputs := rest }) ∨
    (∃ cw rest i, s.inputs = .command cw :: rest ∧ decode s.cfg.sw cw = .cmd i ∧
      exec i { s with inputs := rest } = .next t) ∨
    (∃ cw rest why, s.inputs = .command cw :: rest ∧ decode s.cfg.sw cw = .illegal why ∧
      t = issueIllegal why (fieldOp cw) { s with inputs := rest }) := by
  rcases pending_cases s with ⟨hi, hp⟩ | ⟨rest, hi, hp, ht⟩ | ⟨cw, rest, i, hi, hd, hp, ht⟩ |
    ⟨cw, rest, why, hi, hd, hp, ht⟩
  · rw [step_wait hp] at h
    cases h
    exact .inl ⟨hi, rfl⟩
  · rw [step_reset hp, ht] at h
    cases h
    exact .inr (.inl ⟨rest, hi, rfl⟩)
  · rw [step_run hp, ht] at h
    exact .inr (.inr (.inl ⟨cw, rest, i, hi, hd, h⟩))
  · rw [step_illegal hp, ht] at h
    cases h
    exact .inr (.inr (.inr ⟨cw, rest, why, hi, hd, rfl⟩))

end Sys2Proof.Machine
end

