-- ==== Sys2Proof/Laws/PerInstr.lean ====
section
/-! SUPPORT. Per-instruction statements. The family MatchesRow: the word of a command selects its own row of the opcode
map, "(CW & mask) = match" (30_encoding.md R83), at every value of its operands. -/

namespace Sys2Proof.Laws

/-- The word of `i` has the OP field of the row of `i`, and every bit the row fixes (30_encoding.md R83). -/
def MatchesRow.Statement (i : Instr) : Prop :=
  ∃ row, rowOf (fieldOp (encode i)) = some row ∧ row.op = i.op ∧ encode i &&& row.mask = row.pattern

theorem MatchesRow.nop : MatchesRow.Statement .nop := ⟨_, rfl, rfl, by decide⟩

theorem MatchesRow.calStart (count : Half) : MatchesRow.Statement (.calStart count) := by
  refine ⟨_, by rw [fieldOp_encode]; rfl, rfl, BitVec.eq_of_getLsbD_eq fun j hj => ?_⟩
  simp only [encode, BitVec.getLsbD_and, assemble_getLsbD]
  interval_cases j <;> simp [Op.code]

theorem MatchesRow.calSample (err : Bool) (raw : Half) : MatchesRow.Statement (.calSample err raw) := by
  refine ⟨_, by rw [fieldOp_encode]; rfl, rfl, BitVec.eq_of_getLsbD_eq fun j hj => ?_⟩
  simp only [encode, BitVec.getLsbD_and, assemble_getLsbD]
  interval_cases j <;> simp [Op.code]

theorem MatchesRow.push (err : Bool) (raw : Half) : MatchesRow.Statement (.push err raw) := by
  refine ⟨_, by rw [fieldOp_encode]; rfl, rfl, BitVec.eq_of_getLsbD_eq fun j hj => ?_⟩
  simp only [encode, BitVec.getLsbD_and, assemble_getLsbD]
  interval_cases j <;> simp [Op.code]

theorem MatchesRow.tick (now : Word) : MatchesRow.Statement (.tick now) := by
  refine ⟨_, by rw [fieldOp_encode]; rfl, rfl, BitVec.eq_of_getLsbD_eq fun j hj => ?_⟩
  simp only [encode, BitVec.getLsbD_and, assemble_getLsbD]
  interval_cases j <;> simp [Op.code]

theorem MatchesRow.step (err : Bool) (raw : Half) (now : Word) : MatchesRow.Statement (.step err raw now) := by
  refine ⟨_, by rw [fieldOp_encode]; rfl, rfl, BitVec.eq_of_getLsbD_eq fun j hj => ?_⟩
  simp only [encode, BitVec.getLsbD_and, assemble_getLsbD]
  interval_cases j <;> simp [Op.code]

theorem MatchesRow.pixSet (index r g b : Byte) : MatchesRow.Statement (.pixSet index r g b) := by
  refine ⟨_, by rw [fieldOp_encode]; rfl, rfl, BitVec.eq_of_getLsbD_eq fun j hj => ?_⟩
  have ht : ∀ k, (0#8 ++ r ++ g ++ b : Word).getLsbD k =
      if k < 8 then b.getLsbD k else if k < 16 then g.getLsbD (k - 8)
      else if k < 24 then r.getLsbD (k - 16) else false := by
    intro k
    have h : (0#8 ++ r ++ g ++ b : BitVec (8 + 8 + 8 + 8)).getLsbD k =
        if k < 8 then b.getLsbD k else if k < 16 then g.getLsbD (k - 8)
        else if k < 24 then r.getLsbD (k - 16) else false := by
      simp only [BitVec.getLsbD_append, BitVec.getLsbD_zero]
      split_ifs <;> first
        | omega
        | rfl
    exact h
  simp only [encode, BitVec.getLsbD_and, assemble_getLsbD, ht]
  interval_cases j <;> simp [Op.code]

theorem MatchesRow.pixClear : MatchesRow.Statement .pixClear := ⟨_, rfl, rfl, by decide⟩

theorem MatchesRow.pixFlush : MatchesRow.Statement .pixFlush := ⟨_, rfl, rfl, by decide⟩

theorem MatchesRow.rdreg (addr : Half) : MatchesRow.Statement (.rdreg addr) := by
  refine ⟨_, by rw [fieldOp_encode]; rfl, rfl, BitVec.eq_of_getLsbD_eq fun j hj => ?_⟩
  simp only [encode, BitVec.getLsbD_and, assemble_getLsbD]
  interval_cases j <;> simp [Op.code]

end Sys2Proof.Laws
end

