-- ==== Sys2Proof/Laws/Stores.lean ====
section
/-! SUPPORT. The canonical form of the stores: RING has W slots and CURSOR is one of them, PIX has NPIX pixels
(10_state.md R22, R23, R36). Reset has it and every operation on the stores keeps it. -/

namespace Sys2Proof.Machine

open Sys2Proof

theorem StoresOk.reset (c : Cfg) : StoresOk (State.resetWith c) :=
  ⟨List.length_replicate, c.legal.1.1, List.length_replicate⟩

/-- An operation that leaves RING and CURSOR, and the length of PIX, keeps the form. -/
theorem StoresOk.of_eq {s t : State} (h : StoresOk s) (hc : t.cfg = s.cfg) (hr : t.ring = s.ring)
    (hu : t.cursor = s.cursor) (hp : t.pix.length = s.pix.length) : StoresOk t :=
  ⟨by rw [hr, hc, h.ring_length], by rw [hu, hc]; exact h.cursor_lt, by rw [hp, hc, h.pix_length]⟩

theorem StoresOk.respond {s : State} (h : StoresOk s) (rc : RespCode) (data : Word) : StoresOk (s.respond rc data) :=
  h.of_eq rfl rfl rfl rfl

theorem StoresOk.raiseFault {s : State} (h : StoresOk s) (f : FaultKind) (op : BitVec 4) (info : Half) :
    StoresOk (raiseFault s f op info) :=
  h.of_eq rfl rfl rfl rfl

theorem StoresOk.pushSample {s : State} (h : StoresOk s) (raw : Half) : StoresOk (pushSample s raw) := by
  have hw := s.cfg.legal.1
  refine ⟨by simp [h.ring_length], ?_, h.pix_length⟩
  simp only [pushSample_cursor, BitVec.toNat_ofNat]
  exact lt_of_le_of_lt (Nat.mod_le _ _) (Nat.mod_lt _ (by omega))

theorem StoresOk.startCalibration {s : State} (h : StoresOk s) (count : Half) : StoresOk (startCalibration s count) :=
  h.of_eq rfl rfl rfl rfl

theorem StoresOk.takeCalibrationSample {s : State} (h : StoresOk s) (raw : Half) :
    StoresOk (takeCalibrationSample s raw) := by
  rw [takeCalibrationSample_frame]
  exact h.of_eq rfl rfl rfl rfl

theorem StoresOk.setPixel {s : State} (h : StoresOk s) (index : Nat) (c : Colour) : StoresOk (setPixel s index c) :=
  h.of_eq rfl rfl rfl (by simp)

theorem StoresOk.clearAll {s : State} (h : StoresOk s) : StoresOk (clearAll s) :=
  h.of_eq rfl rfl rfl (by simp [h.pix_length])

theorem StoresOk.flush {s : State} (h : StoresOk s) : StoresOk (flush s) := h.of_eq rfl rfl rfl rfl

theorem StoresOk.render {s : State} (h : StoresOk s) (table : List PatternEntry) : StoresOk (render s table) :=
  h.of_eq rfl rfl rfl (by simp [render_eq])

theorem StoresOk.activate {s : State} (h : StoresOk s) (now : Word) : StoresOk (activate s now) := by
  rw [activate_eq]
  exact h.of_eq rfl rfl rfl (by simp)

theorem StoresOk.deactivate {s : State} (h : StoresOk s) (now : Word) : StoresOk (deactivate s now) := by
  rw [deactivate_eq]
  exact h.of_eq rfl rfl rfl (by simp [h.pix_length])

theorem StoresOk.settleGate {s : State} (h : StoresOk s) (now : Word) : StoresOk (settleGate s now) := by
  unfold Machine.settleGate
  split
  · exact h.of_eq rfl rfl rfl rfl
  · exact h

theorem StoresOk.tickState {s : State} (h : StoresOk s) (now : Word) : StoresOk (tickState s now) := by
  have hu : StoresOk (Machine.settleGate (writeAmplitude s) now) :=
    StoresOk.settleGate (s := writeAmplitude s) (h.of_eq rfl rfl rfl rfl) now
  rcases tickState_cases s now with c | c | c | c | c | c
  · rw [c.2.2]; exact hu
  · rw [c.2.2.2]; exact hu.render _
  · rw [c.2.2.2.2]; exact hu.activate now
  · rw [c.2.2.2.2]; exact (hu.activate now).deactivate now
  · rw [c.2.2]; exact hu
  · rw [c.2.2]; exact hu.deactivate now

end Sys2Proof.Machine
end

