-- ==== Sys2Proof/Laws/Trace.lean ====
section
/-! SUPPORT. The output trace (10_state.md R38): the level a port was last written to, and what appending events keeps
of the trace invariants. -/

namespace Sys2Proof.Machine

open Sys2Proof

@[simp] theorem lastLevel_nil {α : Type} (level : OutEvent → Option α) (start : α) : lastLevel level start [] = start := rfl

@[simp] theorem lastLevel_cons {α : Type} (level : OutEvent → Option α) (start : α) (e : OutEvent) (es : List OutEvent) :
    lastLevel level start (e :: es) = lastLevel level ((level e).getD start) es := rfl

theorem lastLevel_append {α : Type} (level : OutEvent → Option α) (start : α) (out ev : List OutEvent) :
    lastLevel level start (out ++ ev) = lastLevel level (lastLevel level start out) ev := by
  simp [lastLevel, List.foldl_append]

/-- A step that appends `ev` keeps the trace invariants when its ports are what `ev` writes, its frames are counted and
of the right size, no event drives a LED line wrong, and both LED lines stand as an edge leaves them if `ev` holds
anything but frames. -/
theorem TraceOk.append {s t : State} {ev : List OutEvent} (h : TraceOk s) (hc : t.cfg = s.cfg)
    (ho : t.out = s.out ++ ev) (hs : t.statusLed = lastLevel statusLevel s.statusLed ev)
    (hi : t.indLed = lastLevel indLevel s.indLed ev) (hd : t.duty = lastLevel dutyLevel s.duty ev)
    (hf : t.frames = s.frames + BitVec.ofNat 32 (ev.countP isFrame))
    (hl : ∀ e ∈ ev, frameSizeOk s.cfg.npix e = true) (hw : ∀ e ∈ ev, drivesWrong e = false)
    (he : (t.statusLed = s.statusLed ∧ t.indLed = s.indLed ∧ ∀ e ∈ ev, isFrame e = true) ∨
      (t.statusLed = true ∧ t.indLed = false)) : TraceOk t where
  status_eq := by rw [ho, lastLevel_append, ← h.status_eq, hs]
  ind_eq := by rw [ho, lastLevel_append, ← h.ind_eq, hi]
  duty_eq := by rw [ho, lastLevel_append, ← h.duty_eq, hd]
  frames_eq := by rw [ho, hf, h.frames_eq, List.countP_append, BitVec.ofNat_add]
  frame_length := by
    rw [ho, hc]
    exact fun e hm => (List.mem_append.1 hm).elim (h.frame_length e) (hl e)
  never_wrong := by
    rw [ho]
    exact fun e hm => (List.mem_append.1 hm).elim (h.never_wrong e) (hw e)
  after_edge := by
    rintro ⟨e, hm, hn⟩
    rcases he with ⟨h1, h2, h3⟩ | he
    · rw [ho] at hm
      rcases List.mem_append.1 hm with hm | hm
      · rw [h1, h2]
        exact h.after_edge ⟨e, hm, hn⟩
      · rw [h3 e hm] at hn
        cases hn
    · exact he

end Sys2Proof.Machine
end

