-- ==== Sys2Proof/Tests/Slice0.lean ====
section
/-! SUPPORT. Tests of the model: one-step vectors of 95_test_vectors.md, decode words written out from 30_encoding.md,
the well-formedness smoke test, and for each statement with hypotheses a state and operands that meet them together. -/

namespace Sys2Proof.Tests

open Sys2Proof Sys2Proof.Machine

/-! ## Helpers -/

/-- The configuration X of 95_test_vectors.md section 0. -/
def cfgX : Cfg where
  w := 10
  npix := 25
  sw := 12
  gainNum := 13
  gainDen := 10
  threshold := 50
  debounce := 500
  hold := 300
  toneLevel := 128
  alarm := [⟨12, ⟨255, 0, 0⟩⟩, ⟨12, ⟨255, 0, 0⟩⟩]
  idle := [⟨12, ⟨0, 32, 0⟩⟩]
  legal := by decide

/-- The configuration Y of 95_test_vectors.md section 0. -/
def cfgY : Cfg := { cfgX with w := 1, legal := by decide }

/-- Y with HOLD = 0 (95_test_vectors.md V-D8). -/
def cfgHold0 : Cfg := { cfgY with hold := 0, legal := by decide }

/-- The block with a word before it. -/
def given (s : State) (cw : CmdWord) : State := { s with inputs := [.command cw] }

/-- The next state of an answer. -/
def nextOf (r : Result) : Option State :=
  match r with
  | .next t => some t
  | .fault _ => none
  | .refused _ => none

/-- The state one step after a word. -/
def after (s : State) (cw : CmdWord) : Option State := nextOf (step (given s cw))

/-- The last response of the state one step after a word. -/
def respOf (s : State) (cw : CmdWord) : Option Response := (after s cw).bind fun t => t.responses.getLast?

theorem nextOf_some {r : Result} (h : (nextOf r).isSome = true) : ∃ t, r = .next t := by
  cases r <;> simp_all [nextOf]

/-- A block in calibration: CAL_START 3, then two samples of 1 and 2 (95_test_vectors.md V-S6). -/
def calibrating : State :=
  { State.resetWith cfgX with calActive := true, calCount := 3, calRemain := 1, calAcc := 3 }

/-- A block after CAL(2048), in a configuration. -/
def calibrated (c : Cfg) : State :=
  { State.resetWith c with calDone := true, calCount := 1, calAcc := 2048, offset := 2048 }

/-- W = 1, and the last sample pushed was `v`. -/
def holding (v : Half) : State := { calibrated cfgY with ring := [v], smoothed := v }

/-- Active since `t` under Y, the last sample 2090. -/
def activeAt (t : Word) : State :=
  { holding 2090 with
    detState := .active, actTime := t, statusLed := true, duty := 128, out := [.statusLed true, .duty 128] }

/-- Idle under Y with a deactivation at `t`, the last sample 2090. -/
def debouncing (t : Word) : State :=
  { holding 2090 with deactTime := t, debPending := true, statusLed := true, out := [.statusLed true] }

/-- A block faulted by the undefined opcode 0xA (95_test_vectors.md V-F6). -/
def faulted : State := { State.resetWith cfgX with faulted := true, faultCode := 3, faultOp := 0xA, faultInfo := 1 }

/-- The frame of 25 pixels in which only byte `k` is `v`. -/
def frame1 (k : Nat) (v : Byte) : OutEvent := .frame ((List.replicate 75 0).set k v)

theorem ringLt {ring : List Half} {b : Nat} (h : (ring.all fun v => decide (v.toNat < b)) = true) :
    ∀ v ∈ ring, v.toNat < b := by
  simpa using h

/-! ## WellFormed: an ill-formed term for each check -/

theorem test_wellFormed_refuses_calSample : (Instr.calSample false 4096).wellFormed 12 = false := by decide
theorem test_wellFormed_refuses_push : (Instr.push true 4096).wellFormed 12 = false := by decide
theorem test_wellFormed_refuses_step : (Instr.step false 4096 0).wellFormed 12 = false := by decide
theorem test_wellFormed_admits :
    (Instr.calSample false 4095).wellFormed 12 = true ∧ (Instr.push true 4095).wellFormed 12 = true ∧
    (Instr.step false 65535 0).wellFormed 16 = true := by decide

/-! ## Decoding: words written out from 30_encoding.md R81 to R83: OP 63:60, E 59, I 55:48, S 47:32, T 31:0 -/

theorem test_decode_nop :
    decode 12 0b0000_0_000_00000000_0000000000000000_00000000000000000000000000000000 = .cmd .nop := by decide
theorem test_decode_calStart :
    decode 12 0b0001_0_000_00000000_1111111111111111_00000000000000000000000000000000 = .cmd (.calStart 65535) := by
  decide
theorem test_decode_calSample :
    decode 12 0b0010_1_000_00000000_0000111111111111_00000000000000000000000000000000 =
      .cmd (.calSample true 4095) := by decide
theorem test_decode_push :
    decode 12 0b0011_1_000_00000000_0000001111101000_00000000000000000000000000000000 = .cmd (.push true 1000) := by
  decide
theorem test_decode_tick :
    decode 12 0b0100_0_000_00000000_0000000000000000_10000000000000000000000000000001 =
      .cmd (.tick 0x80000001) := by decide
theorem test_decode_step :
    decode 12 0b0101_1_000_00000000_0000100000000001_01000000000000000000000000000010 =
      .cmd (.step true 2049 0x40000002) := by decide
theorem test_decode_pixSet :
    decode 12 0b0110_0_000_00011000_0000000000000000_00000000_00000001_00000010_00000011 =
      .cmd (.pixSet 24 1 2 3) := by decide
theorem test_decode_pixClear :
    decode 12 0b0111_0_000_00000000_0000000000000000_00000000000000000000000000000000 = .cmd .pixClear := by decide
theorem test_decode_pixFlush :
    decode 12 0b1000_0_000_00000000_0000000000000000_00000000000000000000000000000000 = .cmd .pixFlush := by decide
theorem test_decode_rdreg :
    decode 12 0b1001_0_000_00000000_0000001000011000_00000000000000000000000000000000 = .cmd (.rdreg 0x0218) := by
  decide

/-- 95_test_vectors.md V-E1 to V-E4, V-E6 to V-E12. -/
theorem test_decode_refuses :
    decode 12 0xA000000000000000 = .illegal .undefinedOpcode ∧
    decode 12 0x0000000000000001 = .illegal .reservedBitSet ∧
    decode 12 0x3100000000000000 = .illegal .reservedBitSet ∧
    decode 12 0x3000100000000000 = .illegal .sampleOutOfRange ∧
    decode 12 0x6000000001000000 = .illegal .reservedBitSet ∧
    decode 12 0x4800000000000000 = .illegal .reservedBitSet ∧
    decode 12 0xF0FF00000000FFFF = .illegal .undefinedOpcode ∧
    decode 12 0x5800100000000000 = .illegal .sampleOutOfRange ∧
    decode 12 0x1000000100000001 = .illegal .reservedBitSet ∧
    decode 12 0x1800000100000000 = .illegal .reservedBitSet ∧
    decode 12 0x2000100000000000 = .illegal .sampleOutOfRange := by decide

/-- A row of the opcode table is the first instruction after reset (the operand fields zero). -/
theorem test_withFetchWord :
    State.reset.withFetchWord 64 0x3000000000000000 = { State.reset with inputs := [.command 0x3000000000000000] } ∧
    decodeTableWord 64 0x3000000000000000 = some (.push false 0) := ⟨rfl, by decide⟩

/-! ## One step: vectors of 95_test_vectors.md -/

/-- V-C1. -/
theorem test_nop : respOf (State.resetWith cfgX) 0x0000000000000000 = some ⟨.ok, 0⟩ := by decide

/-- V-S1. -/
theorem test_calStart_zero : respOf (State.resetWith cfgX) 0x1000000000000000 = some ⟨.fault, 0x00000106⟩ := by decide

/-- V-S3: CAL_REMAIN stays 3. -/
theorem test_calStart_again :
    (after { State.resetWith cfgX with calActive := true, calCount := 3, calRemain := 3 } 0x1000000300000000).map
      (fun t => (t.calRemain, t.faultCode, t.faultInfo)) = some (3, 7, 1) := by decide

/-- V-S6: the last sample. -/
theorem test_calSample_last :
    (after calibrating 0x2000000200000000).map (fun t => (t.calAcc, t.offset, t.calDone, t.calActive)) =
      some (5, 1, true, false) := by decide

/-- V-S5. -/
theorem test_calSample_err :
    (after calibrating 0x2800000200000000).map (fun t => (t.calAcc, t.calRemain, t.responses)) =
      some (3, 1, [⟨.fault, 0x00000201⟩]) := by decide

/-- V-S8. -/
theorem test_push :
    (after (State.resetWith cfgX) 0x300003E800000000).map (fun t => (t.ring[0]?, t.cursor, t.smoothed)) =
      some (some 1000, 1, 100) := by decide

/-- V-S13: the tenth push wraps CURSOR. -/
theorem test_push_wraps :
    (after { State.resetWith cfgX with cursor := 9 } 0x3000000100000000).map (fun t => (t.cursor, t.smoothed)) =
      some (0, 0) := by decide

/-- V-D13. -/
theorem test_tick_cold :
    (after (calibrated cfgX) 0x4000000000000007).map (fun t => (t.amplitude, t.detState, t.actTime)) =
      some (2662, .active, 7) := by decide

/-- V-D14: the interval through 2^32; the gate is closed at 499 and open at 500. -/
theorem test_tick_wraps :
    (after (debouncing 0xFFFFFF00) 0x40000000000000F3).map (fun t => (t.detState, t.debPending)) = some (.idle, true) ∧
    (after (debouncing 0xFFFFFF00) 0x40000000000000F4).map (fun t => (t.detState, t.actTime)) =
      some (.active, 0xF4) := by decide

/-- V-D3: 50 is not above the threshold; the idle refresh lights pixel 12 green. -/
theorem test_step_idle :
    (after (calibrated cfgY) 0x5000082700000064).map (fun t => (t.responses, t.out)) =
      some ([⟨.ok, 50⟩], [frame1 36 0x20]) := by decide

/-- V-D8: with HOLD = 0 the activation's events, then the deactivation's. -/
theorem test_step_hold_zero :
    (after (calibrated cfgHold0) 0x5000082A00000064).map (fun t => t.out) =
      some [.statusLed true, .indLed false, frame1 37 0xFF, .duty 128, .indLed false, .statusLed true,
        .frame (List.replicate 75 0), .duty 0] := by decide

/-- V-X1. -/
theorem test_pixSet :
    (after (State.resetWith cfgX) 0x6018000000010203).map (fun t => (t.pix[24]?, t.out)) =
      some (some ⟨1, 2, 3⟩, []) := by decide

/-- V-X2. -/
theorem test_pixSet_out_of_range :
    respOf (State.resetWith cfgX) 0x6019000000FFFFFF = some ⟨.fault, 0x00190602⟩ := by decide

/-- V-X4. -/
theorem test_pixClear :
    (after { State.resetWith cfgX with pix := (List.replicate 25 Colour.black).set 3 ⟨0x12, 0x34, 0x56⟩ }
      0x7000000000000000).map (fun t => (t.pix[3]?, t.pix.length, t.out)) = some (some ⟨0, 0, 0⟩, 25, []) := by decide

/-- V-X3: green, red, blue. -/
theorem test_pixFlush :
    (after { State.resetWith cfgX with pix := (List.replicate 25 Colour.black).set 3 ⟨0x12, 0x34, 0x56⟩ }
      0x8000000000000000).map (fun t => t.out) =
      some [.frame ((((List.replicate 75 0).set 9 0x34).set 10 0x12).set 11 0x56)] := by decide

/-- V-X11. -/
theorem test_pixFlush_wraps :
    (after { State.resetWith cfgX with frames := 0xFFFFFFFF } 0x8000000000000000).map (fun t => t.frames) =
      some 0 := by decide

/-- V-C6: STATUS of an Active block; and a faulted one of V-F7. -/
theorem test_rdreg_status :
    respOf (activeAt 100) 0x9000000000000000 = some ⟨.ok, 0x103⟩ ∧
    respOf { activeAt 100 with faulted := true } 0x9000000000000000 = some ⟨.ok, 0x113⟩ := by decide

/-- V-F6: while FAULTED, NOP and a malformed RDREG are ignored, and the record is kept. -/
theorem test_faulted :
    respOf faulted 0x0000000000000000 = some ⟨.ignored, 0⟩ ∧
    respOf faulted 0x9000000100000001 = some ⟨.ignored, 0⟩ ∧
    respOf faulted 0x9000000100000000 = some ⟨.ok, 0x00010A03⟩ := by decide

/-! ## Witnesses: states that meet the invariants -/

theorem test_inv_calibrating : Inv calibrating := by
  refine ⟨⟨?_, ?_, ?_⟩, ⟨ringLt (by decide), ?_⟩, ⟨?_, ?_, ?_, ?_, ?_, ?_, ?_⟩, ⟨?_, ?_, ?_, ?_, ?_, ?_⟩, ⟨?_, ?_⟩,
    ⟨?_, ?_, ?_, ?_, ?_, ?_, ?_⟩⟩ <;>
    decide

theorem test_inv_active : Inv (activeAt 100) := by
  refine ⟨⟨?_, ?_, ?_⟩, ⟨ringLt (by decide), ?_⟩, ⟨?_, ?_, ?_, ?_, ?_, ?_, ?_⟩, ⟨?_, ?_, ?_, ?_, ?_, ?_⟩, ⟨?_, ?_⟩,
    ⟨?_, ?_, ?_, ?_, ?_, ?_, ?_⟩⟩ <;>
    decide

theorem test_inv_debouncing : Inv (debouncing 400) := by
  refine ⟨⟨?_, ?_, ?_⟩, ⟨ringLt (by decide), ?_⟩, ⟨?_, ?_, ?_, ?_, ?_, ?_, ?_⟩, ⟨?_, ?_, ?_, ?_, ?_, ?_⟩, ⟨?_, ?_⟩,
    ⟨?_, ?_, ?_, ?_, ?_, ?_, ?_⟩⟩ <;>
    decide

theorem test_inv_faulted : Inv faulted := by
  refine ⟨⟨?_, ?_, ?_⟩, ⟨ringLt (by decide), ?_⟩, ⟨?_, ?_, ?_, ?_, ?_, ?_, ?_⟩, ⟨?_, ?_, ?_, ?_, ?_, ?_⟩, ⟨?_, ?_⟩,
    ⟨?_, ?_, ?_, ?_, ?_, ?_, ?_⟩⟩ <;>
    decide

/-- A full ring of the largest sample, CURSOR on its last slot (95_test_vectors.md V-S14). -/
def fullRing : State :=
  { State.resetWith cfgX with ring := List.replicate 10 4095, cursor := 9, smoothed := 4095 }

theorem test_inv_fullRing : Inv fullRing := by
  refine ⟨⟨?_, ?_, ?_⟩, ⟨ringLt (by decide), ?_⟩, ⟨?_, ?_, ?_, ?_, ?_, ?_, ?_⟩, ⟨?_, ?_, ?_, ?_, ?_, ?_⟩, ⟨?_, ?_⟩,
    ⟨?_, ?_, ?_, ?_, ?_, ?_, ?_⟩⟩ <;>
    decide

/-- Idle after a deactivation whose pending bit has been cleared (R52 item 7). -/
theorem test_inv_after_deactivation :
    Inv { debouncing 400 with debPending := false } ∧ ¬Inv { holding 2090 with out := [.duty 0] } := by
  refine ⟨?_, fun h => absurd (h.trace.after_edge (by decide)) (by decide)⟩
  refine ⟨⟨?_, ?_, ?_⟩, ⟨ringLt (by decide), ?_⟩, ⟨?_, ?_, ?_, ?_, ?_, ?_, ?_⟩, ⟨?_, ?_, ?_, ?_, ?_, ?_⟩, ⟨?_, ?_⟩,
    ⟨?_, ?_, ?_, ?_, ?_, ?_, ?_⟩⟩ <;>
    decide

/-! ## Witnesses: the hypotheses of each statement, met together -/

theorem test_witness_DecodeOfEncodeIsSelf : (Instr.step true 4095 0xFFFFFFFF).wellFormed 12 = true := by decide

theorem test_witness_EncodeOfDecodeIsSelf : decode 12 0x58000FFFFFFFFFFF = .cmd (.step true 4095 0xFFFFFFFF) := by decide

theorem test_witness_StepRunsDecodedCommand :
    (given (activeAt 100) 0x5000080000000190).inputs = [.command 0x5000080000000190] ∧
    decode (given (activeAt 100) 0x5000080000000190).cfg.sw 0x5000080000000190 = .cmd (.step false 2048 400) :=
  ⟨rfl, by decide⟩

theorem test_witness_StepOfIllegalWord :
    (given faulted 0xA000000000000000).inputs = [.command 0xA000000000000000] ∧
    decode (given faulted 0xA000000000000000).cfg.sw 0xA000000000000000 = .illegal .undefinedOpcode ∧
    decode calibrating.cfg.sw 0x0000000000000001 = .illegal .reservedBitSet ∧
    decode calibrating.cfg.sw 0x3000100000000000 = .illegal .sampleOutOfRange := ⟨rfl, by decide, by decide, by decide⟩

theorem test_witness_NoInputWaits : (activeAt 100).inputs = [] := rfl

theorem test_witness_ResetInputGivesResetState :
    ({ activeAt 100 with inputs := [.reset, .command 0] } : State).inputs = .reset :: [.command 0] := rfl

/-- Each code of 60_exceptions.md R213, in the order of R216, with a word to which later ones apply too where there is
one (95_test_vectors.md section 2.6). -/
theorem test_witness_FirstFaultIsTaken :
    firstFault (State.resetWith cfgX) 0xA000000000000000 = some (0x03, 1) ∧
    firstFault (State.resetWith cfgX) 0x6019000001000000 = some (0x03, 2) ∧
    firstFault (State.resetWith cfgX) 0x5800100000000000 = some (0x03, 3) ∧
    firstFault calibrating 0x601E000000000000 = some (0x07, 1) ∧
    firstFault (calibrated cfgX) 0x20000FFF00000000 = some (0x07, 2) ∧
    firstFault (calibrated cfgX) 0x1000000000000000 = some (0x05, 0) ∧
    firstFault (State.resetWith cfgX) 0x1000000000000000 = some (0x06, 0) ∧
    firstFault (State.resetWith cfgX) 0x5800006400000000 = some (0x04, 0) ∧
    firstFault (calibrated cfgX) 0x5800006400000000 = some (0x01, 0) ∧
    firstFault (State.resetWith cfgX) 0x6019000000000000 = some (0x02, 25) ∧
    calibrating.faulted = false ∧ (calibrated cfgX).faulted = false := by decide

theorem test_witness_FaultedBlockRunsOnlyRdreg :
    faulted.faulted = true ∧ StoresOk faulted ∧
    decode faulted.cfg.sw 0x9000000100000000 = .cmd (.rdreg 1) ∧
    decode faulted.cfg.sw 0x9000000100000001 = .illegal .reservedBitSet ∧
    (∃ t, step faulted = .next t) ∧ ∀ rest, faulted.inputs ≠ .reset :: rest :=
  ⟨rfl, test_inv_faulted.stores, by decide, by decide, ⟨_, rfl⟩, fun _ => nofun⟩

theorem test_witness_FaultsArePrecise :
    (activeAt 100).faulted = false ∧
    (after (activeAt 100) 0x3800000100000000).map (fun t => t.faulted) = some true := by decide

theorem test_witness_CalibrationAdmitsOnlyItsCommands :
    (calibrating.faulted = false ∧ calibrating.calActive = true ∧ (Instr.pixSet 30 0 0 0).wellFormed 12 = true) ∧
    (StoresOk calibrating ∧ errOf (.calSample false 4095) = false ∧ (Instr.calSample false 4095).wellFormed 12 = true) ∧
    ((calibrated cfgX).faulted = false ∧ (calibrated cfgX).calActive = false ∧
      (4095#16).toNat < 2 ^ (calibrated cfgX).cfg.sw) :=
  ⟨by decide, ⟨test_inv_calibrating.stores, by decide⟩, by decide⟩

theorem test_witness_DetectionNeedsCalibration :
    fullRing.faulted = false ∧ fullRing.calActive = false ∧ fullRing.calDone = false ∧ StoresOk fullRing ∧
    (Instr.step true 4095 0).wellFormed fullRing.cfg.sw = true ∧
    (Instr.pixSet 24 0 0 0).wellFormed fullRing.cfg.sw = true ∧
    (∀ index, indexOf (.pixSet 24 0 0 0) = some index → index.toNat < fullRing.cfg.npix) :=
  ⟨rfl, rfl, rfl, test_inv_fullRing.stores, by decide, by decide, fun _ h => by cases h; decide⟩

theorem test_witness_CalibrationHappensOnce :
    ((calibrated cfgX).faulted = false ∧ (calibrated cfgX).calActive = false ∧ (calibrated cfgX).calDone = true) ∧
    (calibrating.faulted = false ∧ calibrating.calActive = true) ∧
    (after (calibrated cfgX) 0x1000000300000000).isSome = true ∧
    ∀ rest, (given (calibrated cfgX) 0x1000000300000000).inputs ≠ .reset :: rest :=
  ⟨by decide, by decide, by decide, fun _ => nofun⟩

theorem test_witness_EveryCommandHasOneResponse :
    StoresOk (given faulted 0) ∧ respOf faulted 0 = some ⟨.ignored, 0⟩ ∧
    respOf calibrating 0x9000000800000000 = some ⟨.ok, 3⟩ ∧
    respOf calibrating 0x4000000000000000 = some ⟨.fault, 0x00010407⟩ ∧
    respOf calibrating 0x9000000D00000000 = some ⟨.badreg, 0⟩ :=
  ⟨⟨test_inv_faulted.stores.1, test_inv_faulted.stores.2, test_inv_faulted.stores.3⟩, by decide⟩

theorem test_witness_NopCompletes : calibrating.faulted = false := rfl

theorem test_witness_CalStartCompletes :
    (State.resetWith cfgX).faulted = false ∧ (State.resetWith cfgX).calActive = false ∧
    (State.resetWith cfgX).calDone = false ∧ (65535#16 : Half) ≠ 0 := by decide

theorem test_witness_CalSampleAccumulates :
    (4095#16).toNat < 2 ^ cfgX.sw ∧ ({ calibrating with calRemain := 2, calAcc := 1 } : State).calRemain ≠ 1 ∧
    ({ calibrating with calRemain := 2, calAcc := 1 } : State).faulted = false ∧
    ({ calibrating with calRemain := 2, calAcc := 1 } : State).calActive = true := by decide

theorem test_witness_LastCalSampleSetsOffset :
    Inv calibrating ∧ calibrating.faulted = false ∧ calibrating.calActive = true ∧
    (4095#16).toNat < 2 ^ calibrating.cfg.sw ∧ calibrating.calRemain = 1 := ⟨test_inv_calibrating, by decide⟩

theorem test_witness_ConstantCalibrationGivesTheConstant :
    (State.resetWith cfgX).faulted = false ∧ (State.resetWith cfgX).calActive = false ∧
    (State.resetWith cfgX).calDone = false ∧ 1 ≤ 65535 ∧ 65535 < 2 ^ 16 ∧
    (4095#16).toNat < 2 ^ (State.resetWith cfgX).cfg.sw := by decide

theorem test_witness_PushCompletes :
    fullRing.faulted = false ∧ fullRing.calActive = false ∧ (4095#16).toNat < 2 ^ fullRing.cfg.sw ∧
    RingPresent fullRing := by decide

theorem test_witness_PushAverageIsExact :
    Inv fullRing ∧ fullRing.faulted = false ∧ fullRing.calActive = false ∧ (4095#16).toNat < 2 ^ fullRing.cfg.sw :=
  ⟨test_inv_fullRing, by decide⟩

theorem test_witness_SmoothedIsMeanOfLastWindow :
    ([1000, 4095, 0] : List Half) ≠ [] ∧ ∀ v ∈ ([1000, 4095, 0] : List Half), v.toNat < 2 ^ cfgY.sw :=
  ⟨by decide, ringLt (by decide)⟩

theorem test_admitted_active : TickAdmitted (activeAt 100) := ⟨rfl, rfl, rfl, rfl⟩

theorem test_admitted_debouncing : TickAdmitted (debouncing 400) := ⟨rfl, rfl, rfl, rfl⟩

theorem test_admitted_holding (v : Half) : TickAdmitted (holding v) := ⟨rfl, rfl, rfl, rfl⟩

theorem test_witness_AmplitudeIsExactFloor : Inv (activeAt 100) ∧ TickAdmitted (activeAt 100) :=
  ⟨test_inv_active, test_admitted_active⟩

/-- 0, DEBOUNCE - 1 and DEBOUNCE elapsed. -/
theorem test_witness_GateOpensWhenDebounceElapsed :
    (holding 2090).debPending = false ∧ (debouncing 400).debPending = true ∧
    ((899 : Word) - (debouncing 400).deactTime).toNat + 1 = (debouncing 400).cfg.debounce ∧
    ((900 : Word) - (debouncing 400).deactTime).toNat = (debouncing 400).cfg.debounce := by decide

theorem test_witness_TickWithGateClosedHolds :
    TickAdmitted (debouncing 400) ∧ (debouncing 400).detState = .idle ∧ (debouncing 400).debPending = true ∧
    ((899 : Word) - (debouncing 400).deactTime).toNat < (debouncing 400).cfg.debounce :=
  ⟨test_admitted_debouncing, by decide⟩

/-- The amplitude 50 equals the threshold (V-D3); the gate opens by either condition. -/
theorem test_witness_TickRefreshesIdle :
    TickAdmitted (holding 2087) ∧ (holding 2087).detState = .idle ∧ (holding 2087).debPending = false ∧
    amplitudeOf (holding 2087) = (holding 2087).cfg.threshold ∧
    amplitudeOf { debouncing 400 with smoothed := 2087 } ≤ (debouncing 400).cfg.threshold ∧
    (debouncing 400).cfg.debounce ≤ ((900 : Word) - (debouncing 400).deactTime).toNat :=
  ⟨test_admitted_holding _, by decide⟩

/-- The amplitude 52 is above the threshold (V-D4); the gate opens by either condition. -/
theorem test_witness_TickActivates :
    TickAdmitted (holding 2088) ∧ (holding 2088).detState = .idle ∧ (holding 2088).debPending = false ∧
    (holding 2088).cfg.threshold < amplitudeOf (holding 2088) ∧ 1 ≤ (holding 2088).cfg.hold ∧
    TickAdmitted (debouncing 400) ∧ (debouncing 400).cfg.threshold < amplitudeOf (debouncing 400) ∧
    (debouncing 400).cfg.debounce ≤ ((900 : Word) - (debouncing 400).deactTime).toNat :=
  ⟨test_admitted_holding _, by decide, by decide, by decide, by decide, test_admitted_debouncing, by decide, by decide⟩

theorem test_witness_TickWithZeroHoldActivatesAndDeactivates :
    TickAdmitted { calibrated cfgHold0 with smoothed := 2090 } ∧
    ({ calibrated cfgHold0 with smoothed := 2090 } : State).detState = .idle ∧
    ({ calibrated cfgHold0 with smoothed := 2090 } : State).debPending = false ∧
    cfgHold0.threshold < amplitudeOf { calibrated cfgHold0 with smoothed := 2090 } ∧ cfgHold0.hold = 0 :=
  ⟨⟨rfl, rfl, rfl, rfl⟩, by decide⟩

/-- HOLD - 1 elapsed. -/
theorem test_witness_TickStaysActive :
    TickAdmitted (activeAt 100) ∧ (activeAt 100).detState = .active ∧
    ((399 : Word) - (activeAt 100).actTime).toNat + 1 = (activeAt 100).cfg.hold := ⟨test_admitted_active, by decide⟩

/-- HOLD elapsed. -/
theorem test_witness_TickDeactivates :
    TickAdmitted (activeAt 100) ∧ (activeAt 100).detState = .active ∧
    ((400 : Word) - (activeAt 100).actTime).toNat = (activeAt 100).cfg.hold := ⟨test_admitted_active, by decide⟩

theorem test_witness_StepIsPushThenTick :
    TickAdmitted (debouncing 400) ∧ RingPresent (debouncing 400) ∧ (4095#16).toNat < 2 ^ (debouncing 400).cfg.sw :=
  ⟨test_admitted_debouncing, by decide⟩

theorem test_witness_ActiveUntilHoldElapses :
    (activeAt 100).detState = .active ∧ ticksAt 399 (.step false 4095 399) = true ∧ ticksAt 400 (.tick 400) = true ∧
    (nextOf (exec (.step false 4095 399) (activeAt 100))).map (fun t => t.faulted) = some false ∧
    (nextOf (exec (.tick 400) (activeAt 100))).map (fun t => t.faulted) = some false ∧
    (activeAt 100).faulted = false := by decide

theorem test_witness_DebounceBlocksThenAdmits :
    Inv (debouncing 400) ∧ (debouncing 400).detState = .idle ∧ (debouncing 400).debPending = true ∧
    ticksAt 899 (.step false 2090 899) = true ∧ ticksAt 900 (.tick 900) = true ∧
    (nextOf (exec (.step false 2090 899) (debouncing 400))).map (fun t => t.faulted) = some false ∧
    (nextOf (exec (.tick 900) (debouncing 400))).map (fun t => (t.faulted, t.amplitude)) = some (false, 54) ∧
    (debouncing 400).cfg.threshold < 54 ∧ 1 ≤ (debouncing 400).cfg.hold := ⟨test_inv_debouncing, by decide⟩

/-- Two blocks at different times, each with HOLD elapsed; and two with HOLD = 0 that differ in a pixel. -/
theorem test_witness_TransitionsReadOnlyTheirInputs :
    (TickAdmitted (activeAt 100) ∧ TickAdmitted (activeAt 700) ∧
      elapsed 400 (activeAt 100).actTime = elapsed 1000 (activeAt 700).actTime ∧
      amplitudeOf (activeAt 100) = amplitudeOf (activeAt 700) ∧
      gateOpen (activeAt 100) 400 = gateOpen (activeAt 700) 1000 ∧
      (nextOf (exec (.tick 400) (activeAt 100))).isSome = true ∧
      (nextOf (exec (.tick 1000) (activeAt 700))).isSome = true) ∧
    TickAdmitted (calibrated cfgHold0) ∧ TickAdmitted (setPixel (calibrated cfgHold0) 0 ⟨1, 2, 3⟩) ∧
    gateOpen (calibrated cfgHold0) 5 = gateOpen (setPixel (calibrated cfgHold0) 0 ⟨1, 2, 3⟩) 5 ∧
    (nextOf (exec (.tick 5) (calibrated cfgHold0))).map (fun t => t.out.length) = some 8 ∧
    (nextOf (exec (.tick 5) (setPixel (calibrated cfgHold0) 0 ⟨1, 2, 3⟩))).map (fun t => t.out.length) = some 8 :=
  ⟨⟨⟨rfl, rfl, rfl, rfl⟩, ⟨rfl, rfl, rfl, rfl⟩, by decide⟩, ⟨rfl, rfl, rfl, rfl⟩, ⟨rfl, rfl, rfl, rfl⟩, by decide⟩

theorem test_witness_AmplitudeExampleActivates :
    TickAdmitted (holding 2090) ∧ (holding 2090).cfg.gainNum = 13 ∧ (holding 2090).cfg.gainDen = 10 ∧
    (holding 2090).cfg.threshold = 50 ∧ 1 ≤ (holding 2090).cfg.hold ∧ (holding 2090).offset = 2048 ∧
    (holding 2090).smoothed = 2090 ∧ (holding 2090).detState = .idle ∧ gateOpen (holding 2090) 100 = true :=
  ⟨test_admitted_holding _, by decide⟩

/-- The last index of PIX_SET that is in range, and the first that is not. -/
theorem test_witness_PixelStatements :
    fullRing.faulted = false ∧ fullRing.calActive = false ∧ PixelsPresent fullRing ∧
    (24#8).toNat + 1 = fullRing.cfg.npix ∧ fullRing.cfg.npix = (25#8).toNat := by decide

theorem test_witness_RdregReadsRingSlots :
    9 < fullRing.cfg.w ∧ fullRing.ring[9]? = some 4095 ∧ 0 < fullRing.cfg.w ∧ fullRing.ring[0]? = some 4095 := by decide

theorem test_witness_RdregReadsPixels :
    24 < fullRing.cfg.npix ∧ fullRing.pix[24]? = some ⟨0, 0, 0⟩ ∧ 0 < fullRing.cfg.npix ∧
    fullRing.pix[0]? = some ⟨0, 0, 0⟩ := by decide

/-- The first and the last address of each unmapped range; the mapped ones beside them. -/
theorem test_witness_RdregRefusesUnmapped :
    (∀ a ∈ ([0x000D, 0x000F, 0x0019, 0x00FF, 0x010A, 0x01FF, 0x0219, 0xFFFF] : List Half),
      regAt cfgX a = none) ∧
    (∀ a ∈ ([0x0000, 0x000C, 0x0010, 0x0018, 0x0100, 0x0109, 0x0200, 0x0218] : List Half),
      (regAt cfgX a).isSome = true) := by
  constructor <;> simp only [List.forall_mem_cons, List.not_mem_nil, false_implies, implies_true] <;> decide

/-- A command of each frame statement, completing and faulting. -/
theorem test_witness_Frames :
    (nextOf (exec .nop calibrating)).isSome = true ∧ (nextOf (exec (.rdreg 0) faulted)).isSome = true ∧
    (nextOf (exec (.calStart 3) fullRing)).isSome = true ∧ (nextOf (exec (.calSample false 1) calibrating)).isSome = true ∧
    (nextOf (exec (.push false 1) fullRing)).isSome = true ∧ (nextOf (exec (.push true 1) fullRing)).isSome = true ∧
    (nextOf (exec (.pixSet 24 1 2 3) fullRing)).isSome = true ∧ (nextOf (exec .pixClear fullRing)).isSome = true ∧
    (nextOf (exec .pixFlush fullRing)).isSome = true ∧ (nextOf (exec (.tick 400) (activeAt 100))).isSome = true ∧
    (nextOf (exec (.step false 1 400) (activeAt 100))).isSome = true := by decide

theorem test_witness_StepKeepsInvariants :
    Inv (activeAt 100) ∧ (nextOf (step (activeAt 100))).isSome = true ∧ StoresOk (activeAt 100) :=
  ⟨test_inv_active, rfl, test_inv_active.stores⟩

theorem test_witness_OutputTraceOnlyGrows :
    (after (calibrated cfgHold0) 0x5000082A00000064).isSome = true ∧
    ∀ rest, (given (calibrated cfgHold0) 0x5000082A00000064).inputs ≠ .reset :: rest := ⟨by decide, fun _ => nofun⟩

end Sys2Proof.Tests
end

section
namespace Sys2Proof.Machine

/-- Settles O26: the 32-bit difference stays in the naturals by adding the modulus before it subtracts, and no residue
sees that (00_scope.md R13). -/
theorem elapsedIsWrappingDifference : Obligations.ElapsedIsWrappingDifference := by
  intro a b
  have hb : b.toNat ≤ 2 ^ 32 := b.isLt.le
  calc ((elapsed a b).toNat : Int)
      = (((2 ^ 32 - b.toNat + a.toNat) % 2 ^ 32 : Nat) : Int) := by rw [BitVec.toNat_sub]
    _ = ((a.toNat : Int) - (b.toNat : Int) + 2 ^ 32) % 2 ^ 32 := by omega
    _ = ((a.toNat : Int) - (b.toNat : Int)) % 2 ^ 32 := Int.add_emod_right _ _

end Sys2Proof.Machine
end

section
namespace Sys2Proof.Machine

/-! ## The reset input (10_state.md R51; 70_reset_and_hazards.md R240) -/

theorem step_of_reset_input {s : State} {rest : List HostInput} (h : s.inputs = .reset :: rest) :
    step s = .next (resetBlock (takeInput s)) :=
  step_reset (by rw [pending, h])

/-- Settles O8: a pending reset steps to `resetBlock`, whose fields are the reset values by definition. -/
theorem resetInputGivesResetState : Obligations.ResetInputGivesResetState := by
  intro s rest h
  refine ⟨resetBlock (takeInput s), step_of_reset_input h, ?_⟩
  repeat' apply And.intro
  all_goals rfl

/-! ## The register map (10_state.md R44 to R50) -/

theorem regAt_of_lt_0x100 (c : Cfg) {addr : Half} (h : addr.toNat < 0x0100) :
    regAt c addr = scalarMap.lookup addr.toNat :=
  if_pos h

theorem regAt_ringAddress {c : Cfg} {i : Nat} (h : i < c.w) :
    regAt c (BitVec.ofNat 16 (0x0100 + i)) = some (.ringSlot i) := by
  have hw : c.w ≤ 256 := c.legal.1.2
  have ha : (BitVec.ofNat 16 (0x0100 + i)).toNat = 0x0100 + i := Nat.mod_eq_of_lt (by omega)
  simp only [regAt, ha]
  rw [if_neg (by omega), if_pos (by omega), Nat.add_sub_cancel_left, if_pos h]

theorem regAt_pixelAddress {c : Cfg} {i : Nat} (h : i < c.npix) :
    regAt c (BitVec.ofNat 16 (0x0200 + i)) = some (.pixel i) := by
  have hn : c.npix ≤ 256 := c.legal.2.1.2
  have ha : (BitVec.ofNat 16 (0x0200 + i)).toNat = 0x0200 + i := Nat.mod_eq_of_lt (by omega)
  simp only [regAt, ha]
  rw [if_neg (by omega), if_neg (by omega), Nat.add_sub_cancel_left, if_pos h]

/-- The scalar registers lie in two runs of addresses (10_state.md R44 to R47). -/
theorem scalarMap_address : ∀ p ∈ scalarMap, p.1 ≤ 0x000C ∨ (0x0010 ≤ p.1 ∧ p.1 ≤ 0x0018) := by decide

theorem scalarMap_lookup_gap {a : Nat} (h : (0x000D ≤ a ∧ a ≤ 0x000F) ∨ 0x0019 ≤ a) :
    scalarMap.lookup a = none := by
  refine List.lookup_eq_none_iff.2 fun p hp => bne_iff_ne.2 ?_
  have hrun := scalarMap_address p hp
  omega

/-- The unmapped ranges of 10_state.md R50. -/
theorem regAt_unmapped {c : Cfg} {addr : Half}
    (h : (0x000D ≤ addr.toNat ∧ addr.toNat ≤ 0x000F) ∨ (0x0019 ≤ addr.toNat ∧ addr.toNat ≤ 0x00FF) ∨
      (0x0100 + c.w ≤ addr.toNat ∧ addr.toNat ≤ 0x01FF) ∨ 0x0200 + c.npix ≤ addr.toNat) :
    regAt c addr = none := by
  rcases h with h | h | h | h
  · rw [regAt_of_lt_0x100 c (by omega), scalarMap_lookup_gap (.inl h)]
  · rw [regAt_of_lt_0x100 c (by omega), scalarMap_lookup_gap (.inr h.1)]
  · simp only [regAt]
    rw [if_neg (by omega), if_pos (by omega), if_neg (by omega)]
  · simp only [regAt]
    rw [if_neg (by omega), if_neg (by omega), if_neg (by omega)]

/-! ## STATUS and FAULT (10_state.md R44, R45) -/

theorem statusWord_getLsbD (s : State) (k : Nat) :
    (statusWord s).getLsbD k =
      if k = 0 then s.detState.bit else if k = 1 then s.calDone else if k = 2 then s.calActive
      else if k = 3 then s.debPending else if k = 4 then s.faulted else if k = 8 then s.statusLed
      else if k = 9 then s.indLed else false := by
  unfold statusWord
  change BitVec.getLsbD (w := 22 + 1 + 1 + 3 + 1 + 1 + 1 + 1 + 1) _ k = _
  simp only [BitVec.getLsbD_append, BitVec.getLsbD_ofBool, BitVec.getLsbD_zero]
  rcases Nat.lt_or_ge k 10 with hk | hk
  · interval_cases k <;> simp
  · simp (disch := omega) only [if_neg]

theorem statusWord_resetWith (c : Cfg) : statusWord (State.resetWith c) = 0 := by
  refine BitVec.eq_of_getLsbD_eq fun k _ => ?_
  simp [statusWord_getLsbD, State.resetWith, DetState.bit]

/-- Settles O45: the bits of `statusWord`, read while the register map answers address 0 in every state. -/
theorem rdregStatusReadsFlags : Obligations.RdregStatusReadsFlags := by
  refine ⟨fun c => exec_rdreg_mapped (r := .status) rfl (congrArg Except.ok (statusWord_resetWith c)),
    fun s => ⟨statusWord s, exec_rdreg_mapped (r := .status) rfl rfl, ?_⟩⟩
  have hbit : s.detState.bit = decide (s.detState = .active) := by cases s.detState <;> rfl
  refine ⟨?_, ?_, ?_, ?_, ?_, ?_, ?_, fun k hk => ?_⟩
  · rw [statusWord_getLsbD, if_pos rfl, hbit]
  iterate 6 exact statusWord_getLsbD s _
  · rw [statusWord_getLsbD]
    simp (disch := omega) only [if_neg]

theorem faultImage_getLsbD (code : BitVec 8) (op : BitVec 4) (info : Half) (k : Nat) :
    (faultImage code op info).getLsbD k =
      if k < 8 then code.getLsbD k else if k < 12 then op.getLsbD (k - 8) else if k < 16 then false
      else info.getLsbD (k - 16) := by
  unfold faultImage
  change BitVec.getLsbD (w := 16 + 4 + 4 + 8) _ k = _
  simp only [BitVec.getLsbD_append, BitVec.getLsbD_zero]
  rcases Nat.lt_or_ge k 8 with h8 | h8
  · rw [if_pos h8, if_pos h8]
  rcases Nat.lt_or_ge k 12 with h12 | h12
  · simp (disch := omega) only [if_pos, if_neg]
  rcases Nat.lt_or_ge k 16 with h16 | h16
  · simp (disch := omega) only [if_pos, if_neg]
  · simp (disch := omega) only [if_neg, Nat.sub_sub, Nat.reduceAdd]

theorem faultImage_code (code : BitVec 8) (op : BitVec 4) (info : Half) :
    (faultImage code op info).setWidth 8 = code := by
  refine BitVec.eq_of_getLsbD_eq fun k hk => ?_
  simp [faultImage_getLsbD, hk]

theorem faultImage_op (code : BitVec 8) (op : BitVec 4) (info : Half) :
    (faultImage code op info >>> 8).setWidth 4 = op := by
  refine BitVec.eq_of_getLsbD_eq fun k hk => ?_
  rw [BitVec.getLsbD_setWidth, BitVec.getLsbD_ushiftRight, faultImage_getLsbD, if_neg (by omega), if_pos (by omega)]
  simp [hk]

theorem faultImage_reserved (code : BitVec 8) (op : BitVec 4) (info : Half) :
    (faultImage code op info >>> 12).setWidth 4 = 0#4 := by
  refine BitVec.eq_of_getLsbD_eq fun k hk => ?_
  rw [BitVec.getLsbD_setWidth, BitVec.getLsbD_ushiftRight, faultImage_getLsbD, if_neg (by omega), if_neg (by omega),
    if_pos (by omega)]
  simp

theorem faultImage_info (code : BitVec 8) (op : BitVec 4) (info : Half) :
    (faultImage code op info >>> 16).setWidth 16 = info := by
  refine BitVec.eq_of_getLsbD_eq fun k hk => ?_
  rw [BitVec.getLsbD_setWidth, BitVec.getLsbD_ushiftRight, faultImage_getLsbD, if_neg (by omega), if_neg (by omega),
    if_neg (by omega)]
  simp [hk]

theorem faultImage_zero : faultImage 0 0 0 = 0 := by decide

/-- Settles O46: the four fields of `faultImage` as it is read back. -/
theorem rdregFaultReadsRecord : Obligations.RdregFaultReadsRecord :=
  ⟨fun _ => exec_rdreg_mapped (r := .fault) rfl (congrArg Except.ok faultImage_zero),
    fun s => ⟨faultImage s.faultCode s.faultOp s.faultInfo, exec_rdreg_mapped (r := .fault) rfl rfl,
      faultImage_code .., faultImage_op .., faultImage_reserved .., faultImage_info ..⟩⟩

/-! ## The scalar and the configuration registers (10_state.md R46, R47) -/

/-- Settles O47: each address has its own entry in the register map; after reset every one of the eleven words is 0. -/
theorem rdregReadsScalars : Obligations.RdregReadsScalars := by
  refine (and_iff_right_of_imp fun reads c addr lo hi => ?_).2 fun s => ?_
  · refine reads (State.resetWith c) (addr, 0) ?_
    have haddr : addr ∈ ([0x0002, 0x0003, 0x0004, 0x0005, 0x0006, 0x0007, 0x0008, 0x0009, 0x000A, 0x000B,
        0x000C] : List Half) := by
      simp only [List.mem_cons, List.not_mem_nil, or_false]
      bv_omega
    simpa [State.resetWith] using haddr
  · simp only [List.forall_mem_cons]
    refine ⟨?_, ?_, ?_, ?_, ?_, ?_, ?_, ?_, ?_, ?_, ?_, nofun⟩
    all_goals exact exec_rdreg_mapped rfl rfl

/-- The legal ranges keep every numeric field within a register. -/
theorem Cfg.fields_lt (c : Cfg) :
    c.w < 2 ^ 32 ∧ c.npix < 2 ^ 32 ∧ c.sw < 2 ^ 32 ∧ c.gainNum < 2 ^ 32 ∧ c.gainDen < 2 ^ 32 ∧ c.threshold < 2 ^ 32 ∧
      c.debounce < 2 ^ 32 ∧ c.hold < 2 ^ 32 ∧ c.toneLevel < 2 ^ 32 := by
  obtain ⟨hw, hn, hsw, ⟨hgn, -, hgd, -⟩, hth, hdeb, hhold, htone, -⟩ := c.legal
  refine ⟨?_, ?_, ?_, hgn, hgd, hth, ?_, ?_, htone⟩ <;> omega

@[simp] theorem issueIllegal_cfg (why : IllegalWord) (op : BitVec 4) (s : State) : (issueIllegal why op s).cfg = s.cfg := by
  unfold issueIllegal
  split <;> rfl

@[simp] theorem takeCalibrationSample_cfg (s : State) (raw : Half) : (takeCalibrationSample s raw).cfg = s.cfg := by
  rw [takeCalibrationSample_frame]

theorem Performs.cfg_eq {i : Instr} {s t : State} (h : Performs i s t) : t.cfg = s.cfg := by
  cases i with
  | nop => cases h; rfl
  | calStart count => cases h; rfl
  | calSample err raw => cases h; exact takeCalibrationSample_cfg s raw
  | push err raw => obtain ⟨-, rfl⟩ := h; rfl
  | tick now => obtain ⟨-, rfl⟩ := h; exact tickState_cfg s now
  | step err raw now => obtain ⟨-, -, rfl⟩ := h; exact tickState_cfg (pushSample s raw) now
  | pixSet index r g b => obtain ⟨-, rfl⟩ := h; rfl
  | pixClear => obtain ⟨-, rfl⟩ := h; rfl
  | pixFlush => obtain ⟨-, rfl⟩ := h; rfl
  | rdreg addr => obtain ⟨-, rfl⟩ | ⟨r, v, -, -, rfl⟩ := h <;> rfl

theorem exec_cfg {i : Instr} {s t : State} (h : exec i s = .next t) : t.cfg = s.cfg := by
  obtain ⟨-, -, rfl⟩ | ⟨-, f, info, -, rfl⟩ | ⟨-, -, hp⟩ := exec_cases h
  · rfl
  · rfl
  · exact hp.cfg_eq

theorem step_cfg {s t : State} (h : step s = .next t) : t.cfg = s.cfg := by
  obtain ⟨-, rfl⟩ | ⟨rest, -, rfl⟩ | ⟨cw, rest, i, -, -, he⟩ | ⟨cw, rest, why, -, -, rfl⟩ := step_cases h
  · rfl
  · rfl
  · exact (exec_cfg he :)
  · exact issueIllegal_cfg why (fieldOp cw) _

/-- Settles O48: the nine addresses have their own entries in the register map, and no case of a step writes `cfg`. -/
theorem rdregReadsConstantConfiguration : Obligations.RdregReadsConstantConfiguration := by
  refine ⟨fun s => ?_, fun s t => step_cfg⟩
  obtain ⟨hw, hn, hsw, hgn, hgd, hth, hdeb, hhold, htone⟩ := Cfg.fields_lt s.cfg
  simp only [List.forall_mem_cons]
  refine ⟨⟨hw, ?_⟩, ⟨hn, ?_⟩, ⟨hsw, ?_⟩, ⟨hgn, ?_⟩, ⟨hgd, ?_⟩, ⟨hth, ?_⟩, ⟨hdeb, ?_⟩, ⟨hhold, ?_⟩, ⟨htone, ?_⟩, nofun⟩
  all_goals exact exec_rdreg_mapped rfl rfl

/-! ## Ring slots, pixels and unmapped addresses (10_state.md R48 to R50) -/

/-- Settles O49: the ring slot the address names is the one the state holds. -/
theorem rdregReadsRingSlots : Obligations.RdregReadsRingSlots := fun s i v hi hv =>
  have hread : readReg s (.ringSlot i) = .ok (v.setWidth 32) := by rw [readReg, hv]
  exec_rdreg_mapped (regAt_ringAddress hi) hread

/-- Settles O50: the pixel the address names is the one the state holds, packed. -/
theorem rdregReadsPixels : Obligations.RdregReadsPixels := fun s i c hi hc =>
  have hread : readReg s (.pixel i) = .ok (pack c) := by rw [readReg, hc]
  exec_rdreg_mapped (regAt_pixelAddress hi) hread

/-- Settles O51: the register map has no entry in the four ranges. -/
theorem rdregRefusesUnmapped : Obligations.RdregRefusesUnmapped := fun _ _ h =>
  exec_rdreg_unmapped (regAt_unmapped h)

end Sys2Proof.Machine
end

section
namespace Sys2Proof

/-! ## The decoder, opcode by opcode (30_encoding.md R81 to R85) -/

theorem fieldOp_toNat (cw : CmdWord) : (fieldOp cw).toNat = (cw >>> 60).toNat := by
  have hcw := cw.isLt
  simp only [fieldOp, BitVec.extractLsb'_toNat, BitVec.toNat_ushiftRight, Nat.shiftRight_eq_div_pow]
  omega

theorem fieldI_eq (cw : CmdWord) : fieldI cw = (cw >>> 48).setWidth 8 :=
  BitVec.setWidth_ushiftRight_eq_extractLsb.symm

theorem fieldS_eq (cw : CmdWord) : fieldS cw = (cw >>> 32).setWidth 16 :=
  BitVec.setWidth_ushiftRight_eq_extractLsb.symm

theorem fieldT_eq (cw : CmdWord) : fieldT cw = cw.setWidth 32 :=
  (BitVec.setWidth_eq_extractLsb' (by decide)).symm

theorem colourOfT_eq (t : Word) :
    colourOfT t = ⟨(t >>> 16).setWidth 8, (t >>> 8).setWidth 8, t.setWidth 8⟩ := rfl

/-- An OP field is undefined or the opcode of one command (R83). -/
theorem opcode_cases (code : BitVec 4) :
    (0xA ≤ code.toNat ∧ rowOf code = none) ∨ ∃ op : Op, code = op.code := by
  have hundefined : ∀ code : BitVec 4, rowOf code = none → 0xA ≤ code.toNat := by decide
  have hcodes : ∀ row ∈ opTable, row.code = row.op.code := by decide
  cases hrow : rowOf code with
  | none => exact .inl ⟨hundefined code hrow, rfl⟩
  | some row =>
    have hcode : row.code = code := by simpa using List.find?_some hrow
    exact .inr ⟨row.op, hcode ▸ hcodes row (List.mem_of_find?_eq_some hrow)⟩

/-- Settles O3: an OP field is undefined or the opcode of one command, and at a known opcode only the branches of that
command's row are left. -/
theorem decodeTestsOpcodeThenReservedThenSample : Obligations.DecodeTestsOpcodeThenReservedThenSample := by
  refine ⟨⟨rfl, rfl, rfl⟩, fun sw cw => ?_⟩
  dsimp only
  rw [← fieldOp_toNat, ← fieldI_eq, ← fieldS_eq, ← fieldT_eq]
  obtain ⟨hle, hnone⟩ | ⟨op, hop⟩ := opcode_cases (fieldOp cw)
  · rw [decode, hnone, if_pos hle]
  · cases op
    all_goals simp [decode, hop, rowOf, opTable, Op.code, Format.hasSample, operandsOf, colourOfT_eq, fieldE]

end Sys2Proof
end

section
namespace Sys2Proof

/-! ## Words that decode (30_encoding.md R84) -/

@[simp] theorem operandsOf_op (op : Op) (cw : CmdWord) : (operandsOf op cw).op = op := by
  cases op <;> rfl

/-- The row of an opcode asks for a sample in range where the command's own operands do. -/
theorem rowOf_code (op : Op) :
    ∃ row : OpRow, rowOf op.code = some row ∧ row.op = op ∧ ∀ sw cw,
      ¬(row.format.hasSample = true ∧ 2 ^ sw ≤ (fieldS cw).toNat) → (operandsOf op cw).wellFormed sw = true := by
  cases op <;> exact ⟨_, rfl, rfl, by simp [Format.hasSample, operandsOf, Instr.wellFormed]⟩

theorem decode_eq_cmd {sw : Nat} {cw : CmdWord} {i : Instr} (h : decode sw cw = .cmd i) :
    ∃ op : Op, fieldOp cw = op.code ∧ i = operandsOf op cw ∧ i.wellFormed sw = true := by
  obtain ⟨-, hnone⟩ | ⟨op, hop⟩ := opcode_cases (fieldOp cw)
  · simp [decode, hnone] at h
  · obtain ⟨row, hrow, rfl, hwf⟩ := rowOf_code op
    simp only [decode, hop, hrow] at h
    split_ifs at h with hreserved hsample
    obtain rfl := Decoded.cmd.inj h
    exact ⟨row.op, hop, rfl, hwf sw cw hsample⟩

end Sys2Proof

namespace Sys2Proof.Machine

/-! ## The fault table read off the word, and the checks of the decoded command (60_exceptions.md R213, R216) -/

theorem firstFault_of_decode {s : State} {cw : CmdWord} {i : Instr} (h : decode s.cfg.sw cw = .cmd i) :
    firstFault s cw = (faultOf i s).map fun fault => (fault.1.code, fault.2) := by
  obtain ⟨op, hop, rfl, hwf⟩ := decode_eq_cmd h
  simp only [firstFault, h, ← fieldOp_toNat, ← fieldI_eq, ← fieldS_eq, hop]
  cases op
  all_goals
    simp only [operandsOf, Instr.wellFormed, decide_eq_true_eq] at hwf ⊢
    simp [Op.code, fieldE, faultOf_nop, faultOf_calStart, faultOf_calSample, faultOf_push, faultOf_tick, faultOf_step,
      faultOf_pixSet, faultOf_pixClear, faultOf_pixFlush, faultOf_rdreg, hwf, apply_ite (Option.map _), FaultKind.code]

end Sys2Proof.Machine
end

section
namespace Sys2Proof.Machine

/-! ## Where the stores are there, every input is answered (log 6) -/

theorem StoresOk.exists_performs {s : State} (h : StoresOk s) (i : Instr) : ∃ t, Performs i s t := by
  have hring : RingPresent s := ⟨h.ring_length, h.cursor_lt⟩
  have hpix : PixelsPresent s := h.pix_length
  cases i with
  | nop => exact ⟨_, rfl⟩
  | calStart count => exact ⟨_, rfl⟩
  | calSample err raw => exact ⟨_, rfl⟩
  | push err raw => exact ⟨_, hring, rfl⟩
  | tick now => exact ⟨_, hpix, rfl⟩
  | step err raw now => exact ⟨_, hring, hpix, rfl⟩
  | pixSet index r g b => exact ⟨_, hpix, rfl⟩
  | pixClear => exact ⟨_, hpix, rfl⟩
  | pixFlush => exact ⟨_, hpix, rfl⟩
  | rdreg addr =>
    cases hr : regAt s.cfg addr with
    | none => exact ⟨_, .inl ⟨hr, rfl⟩⟩
    | some r =>
      obtain ⟨v, hv⟩ := readReg_ok h.ring_length h.pix_length hr
      exact ⟨_, .inr ⟨r, v, hr, hv, rfl⟩⟩

theorem StoresOk.exec_answers {s : State} (h : StoresOk s) (i : Instr) : ∃ t, exec i s = .next t := by
  obtain ⟨p, hp⟩ := exec_eq_issue i
  obtain ⟨-, -, he⟩ | ⟨-, f, info, -, he⟩ | ⟨hf, ho, -⟩ := issue_cases i p s
  · exact ⟨_, (hp s).trans he⟩
  · exact ⟨_, (hp s).trans he⟩
  · obtain ⟨t, ht⟩ := h.exists_performs i
    exact ⟨t, exec_performs hf ho ht⟩

theorem StoresOk.step_answers {s : State} (h : StoresOk s) : ∃ t, step s = .next t := by
  cases hp : pending s with
  | wait => exact ⟨_, step_wait hp⟩
  | reset => exact ⟨_, step_reset hp⟩
  | run i =>
    have ht : StoresOk (takeInput s) := h.of_eq rfl rfl rfl rfl
    exact step_run hp ▸ ht.exec_answers i
  | illegal why op => exact ⟨_, step_illegal hp⟩

/-! ## The one response to a word (30_encoding.md R95) -/

@[simp] theorem takeCalibrationSample_responses (s : State) (raw : Half) :
    (takeCalibrationSample s raw).responses = s.responses := by
  rw [takeCalibrationSample_frame]

@[simp] theorem takeCalibrationSample_faulted (s : State) (raw : Half) :
    (takeCalibrationSample s raw).faulted = s.faulted := by
  rw [takeCalibrationSample_frame]

/-- A command that is performed answers OK, or BADREG where it is RDREG of an unmapped address. -/
theorem Performs.response {i : Instr} {s t : State} (h : Performs i s t) :
    (∃ data, t.responses = s.responses ++ [⟨.ok, data⟩] ∧ t.faulted = s.faulted) ∨
    ∃ addr, i = .rdreg addr ∧ regAt s.cfg addr = none ∧ t = s.respond .badreg 0 := by
  cases i with
  | nop => cases h; exact .inl ⟨_, rfl, rfl⟩
  | calStart count => cases h; exact .inl ⟨_, rfl, rfl⟩
  | calSample err raw =>
    cases h
    exact .inl ⟨_, congrArg (· ++ _) (takeCalibrationSample_responses s raw), takeCalibrationSample_faulted s raw⟩
  | push err raw => obtain ⟨-, rfl⟩ := h; exact .inl ⟨_, rfl, rfl⟩
  | tick now =>
    obtain ⟨-, rfl⟩ := h
    exact .inl ⟨_, congrArg (· ++ _) (tickState_responses s now), tickState_faulted s now⟩
  | step err raw now =>
    obtain ⟨-, -, rfl⟩ := h
    exact .inl ⟨_, congrArg (· ++ _) (tickState_responses (pushSample s raw) now),
      tickState_faulted (pushSample s raw) now⟩
  | pixSet index r g b => obtain ⟨-, rfl⟩ := h; exact .inl ⟨_, rfl, rfl⟩
  | pixClear => obtain ⟨-, rfl⟩ := h; exact .inl ⟨_, rfl, rfl⟩
  | pixFlush => obtain ⟨-, rfl⟩ := h; exact .inl ⟨_, rfl, rfl⟩
  | rdreg addr =>
    obtain ⟨hr, rfl⟩ | ⟨r, v, -, -, rfl⟩ := h
    · exact .inr ⟨addr, rfl, hr, rfl⟩
    · exact .inl ⟨v, rfl, rfl⟩

theorem step_of_command {s : State} {cw : CmdWord} {rest : List HostInput} {i : Instr}
    (hin : s.inputs = .command cw :: rest) (hd : decode s.cfg.sw cw = .cmd i) :
    step s = exec i { s with inputs := rest } := by
  rw [step_run (i := i) (by simp [pending, hin, hd]), takeInput, hin, List.tail_cons]

theorem step_of_illegal_word {s : State} {cw : CmdWord} {rest : List HostInput} {why : IllegalWord}
    (hin : s.inputs = .command cw :: rest) (hd : decode s.cfg.sw cw = .illegal why) :
    step s = .next (issueIllegal why (fieldOp cw) { s with inputs := rest }) := by
  rw [step_illegal (why := why) (op := fieldOp cw) (by simp [pending, hin, hd]), takeInput, hin, List.tail_cons]

/-- Everything a word can come to, legal or not: it is ignored, it faults, or it is a command that is performed. -/
theorem step_command_cases {s t : State} {cw : CmdWord} {rest : List HostInput}
    (hin : s.inputs = .command cw :: rest) (h : step s = .next t) :
    (s.faulted = true ∧ t = State.respond { s with inputs := rest } .ignored 0) ∨
    (s.faulted = false ∧ ∃ f op info, t = raiseFault { s with inputs := rest } f op info) ∨
    ∃ i, decode s.cfg.sw cw = .cmd i ∧ (s.faulted = true → i.op = .rdreg) ∧ faultOf i s = none ∧
      Performs i { s with inputs := rest } t := by
  cases hd : decode s.cfg.sw cw with
  | cmd i =>
    rw [step_of_command hin hd] at h
    obtain ⟨hf, -, rfl⟩ | ⟨hf, f, info, -, rfl⟩ | ⟨hf, ho, hp⟩ := exec_cases h
    · exact .inl ⟨hf, rfl⟩
    · exact .inr (.inl ⟨hf, f, i.op.code, info, rfl⟩)
    · exact .inr (.inr ⟨i, rfl, fun hs => hf.resolve_left (by simp [hs]), ho, hp⟩)
  | illegal why =>
    rw [step_of_illegal_word hin hd] at h
    cases h
    obtain hf | hf := Bool.eq_false_or_eq_true s.faulted
    · exact .inl ⟨hf, issueIllegal_faulted why _ hf⟩
    · exact .inr (.inl ⟨hf, _, _, _, issueIllegal_raises why _ hf⟩)

/-- Settles O15: a word is ignored, faults, or is performed, and each of these appends one response; its code tells them
apart. -/
theorem everyCommandHasOneResponse : Obligations.EveryCommandHasOneResponse := by
  refine ⟨⟨rfl, rfl, rfl, rfl⟩, fun s cw rest hin => ⟨StoresOk.step_answers, fun t h => ?_⟩⟩
  obtain ⟨hf, rfl⟩ | ⟨hf, f, op, info, rfl⟩ | ⟨i, hd, hrun, ho, hp⟩ := step_command_cases hin h
  · exact ⟨⟨.ignored, 0⟩, rfl, nofun, nofun, fun _ => ⟨hf, rfl, rfl⟩, nofun⟩
  · exact ⟨⟨.fault, faultImage f.code op info⟩, rfl, nofun, fun _ => ⟨hf, rfl, rfl, rfl⟩, nofun, nofun⟩
  · obtain ⟨data, hresp, hfaulted⟩ | ⟨addr, rfl, hr, rfl⟩ := hp.response
    · have hnone : firstFault s cw = none := by rw [firstFault_of_decode hd, ho, Option.map_none]
      exact ⟨⟨.ok, data⟩, hresp, fun _ => ⟨hfaulted, hnone, i, hd, hrun, step_of_command hin hd⟩, nofun, nofun, nofun⟩
    · exact ⟨⟨.badreg, 0⟩, rfl, nofun, nofun, nofun, fun _ => ⟨rfl, ⟨addr, hd, hr⟩, rfl⟩⟩

end Sys2Proof.Machine
end

section
namespace Sys2Proof.Machine

/-! ## Calibration happens at most once between resets (40_smoother.md R111) -/

/-- OFFSET, CAL_DONE and CAL_ACTIVE are the same in both states. -/
def SameCalibration (s t : State) : Prop :=
  t.offset = s.offset ∧ t.calDone = s.calDone ∧ t.calActive = s.calActive

theorem issueIllegal_sameCalibration (why : IllegalWord) (op : BitVec 4) (s : State) :
    SameCalibration s (issueIllegal why op s) := by
  unfold issueIllegal
  split <;> exact ⟨rfl, rfl, rfl⟩

theorem tickState_sameCalibration (s : State) (now : Word) : SameCalibration s (tickState s now) :=
  ⟨tickState_offset s now, tickState_calDone s now, tickState_calActive s now⟩

/-- Only the calibration commands write the calibration. -/
theorem Performs.sameCalibration {i : Instr} {s t : State} (h : Performs i s t) (hstart : i.op ≠ .calStart)
    (hsample : i.op ≠ .calSample) : SameCalibration s t := by
  cases i with
  | nop => cases h; exact ⟨rfl, rfl, rfl⟩
  | calStart count => exact absurd rfl hstart
  | calSample err raw => exact absurd rfl hsample
  | push err raw => obtain ⟨-, rfl⟩ := h; exact ⟨rfl, rfl, rfl⟩
  | tick now => obtain ⟨-, rfl⟩ := h; exact tickState_sameCalibration s now
  | step err raw now => obtain ⟨-, -, rfl⟩ := h; exact tickState_sameCalibration (pushSample s raw) now
  | pixSet index r g b => obtain ⟨-, rfl⟩ := h; exact ⟨rfl, rfl, rfl⟩
  | pixClear => obtain ⟨-, rfl⟩ := h; exact ⟨rfl, rfl, rfl⟩
  | pixFlush => obtain ⟨-, rfl⟩ := h; exact ⟨rfl, rfl, rfl⟩
  | rdreg addr => obtain ⟨-, rfl⟩ | ⟨r, v, -, -, rfl⟩ := h <;> exact ⟨rfl, rfl, rfl⟩

/-- In a calibrated block the checks stop both calibration commands. -/
theorem op_not_calibration_of_calibrated {i : Instr} {s : State} (hdone : s.calDone = true)
    (hactive : s.calActive = false) (h : faultOf i s = none) : i.op ≠ .calStart ∧ i.op ≠ .calSample := by
  cases i with
  | calStart count => simp [faultOf_calStart, hdone, hactive] at h
  | calSample err raw =>
    rw [faultOf_calSample, if_pos hactive] at h
    split at h <;> cases h
  | _ => exact ⟨nofun, nofun⟩

theorem exec_sameCalibration {i : Instr} {s t : State} (hdone : s.calDone = true) (hactive : s.calActive = false)
    (h : exec i s = .next t) : SameCalibration s t := by
  obtain ⟨-, -, rfl⟩ | ⟨-, f, info, -, rfl⟩ | ⟨-, ho, hp⟩ := exec_cases h
  · exact ⟨rfl, rfl, rfl⟩
  · exact ⟨rfl, rfl, rfl⟩
  · obtain ⟨hstart, hsample⟩ := op_not_calibration_of_calibrated hdone hactive ho
    exact hp.sameCalibration hstart hsample

theorem step_sameCalibration {s t : State} (hdone : s.calDone = true) (hactive : s.calActive = false)
    (hreset : ∀ rest, s.inputs ≠ .reset :: rest) (h : step s = .next t) : SameCalibration s t := by
  obtain ⟨-, rfl⟩ | ⟨rest, hi, -⟩ | ⟨cw, rest, i, -, -, he⟩ | ⟨cw, rest, why, -, -, rfl⟩ := step_cases h
  · exact ⟨rfl, rfl, rfl⟩
  · exact absurd hi (hreset rest)
  · exact exec_sameCalibration (s := { s with inputs := rest }) hdone hactive he
  · exact issueIllegal_sameCalibration why (fieldOp cw) { s with inputs := rest }

/-- Settles O14: the checks of CAL_START give its two faults, and of a calibrated block no step but reset writes the
calibration. -/
theorem calibrationHappensOnce : Obligations.CalibrationHappensOnce := by
  refine ⟨fun s count hf hactive hdone => ?_, fun s count hf hactive => ?_, fun s t h hdone hactive hreset => ?_⟩
  · have hfault : faultOf (.calStart count) s = some (.recalibration, 0) := by
      simp [faultOf_calStart, hactive, hdone]
    exact exec_raises hf hfault
  · have hfault : faultOf (.calStart count) s = some (.calSequence, 1) := by
      simp [faultOf_calStart, hactive]
    exact exec_raises hf hfault
  · obtain ⟨hoffset, hd, ha⟩ := step_sameCalibration hdone hactive hreset h
    exact ⟨hd.trans hdone, ha.trans hactive, hoffset⟩

/-! ## The sum and the mean of the calibration samples (40_smoother.md R114, R115) -/

/-- One more sample keeps CAL_ACC within the largest value per sample taken. -/
theorem CalibrationOk.acc_add_le {s : State} {raw : Half} (h : CalibrationOk s) (hraw : raw.toNat < 2 ^ s.cfg.sw) :
    s.calAcc.toNat + raw.toNat ≤ (s.calCount.toNat - s.calRemain.toNat + 1) * (2 ^ s.cfg.sw - 1) := by
  rw [Nat.add_one_mul]
  exact Nat.add_le_add h.acc_le (Nat.le_sub_one_of_lt hraw)

theorem Cfg.two_pow_sw_le (c : Cfg) : 2 ^ c.sw ≤ 2 ^ 16 :=
  Nat.pow_le_pow_right (by decide) c.legal.2.2.1.2

/-- While samples are still to come, the 32-bit sum does not overflow. -/
theorem CalibrationOk.calAcc_add_toNat {s : State} {raw : Half} (h : CalibrationOk s)
    (hremain : 1 ≤ s.calRemain.toNat) (hraw : raw.toNat < 2 ^ s.cfg.sw) :
    (s.calAcc + raw.setWidth 32).toNat = s.calAcc.toNat + raw.toNat := by
  have hsw := Cfg.two_pow_sw_le s.cfg
  have hle := h.remain_le
  have hcount := s.calCount.isLt
  have hbound : s.calAcc.toNat + raw.toNat ≤ 65535 * 65535 :=
    (h.acc_add_le hraw).trans (Nat.mul_le_mul (by omega) (by omega))
  rw [BitVec.toNat_add, BitVec.toNat_setWidth, Nat.mod_eq_of_lt (a := raw.toNat) (by omega),
    Nat.mod_eq_of_lt (by omega)]

/-- The mean of CAL_COUNT samples is a sample. -/
theorem CalibrationOk.mean_lt {s : State} {raw : Half} (h : CalibrationOk s) (hremain : s.calRemain = 1)
    (hraw : raw.toNat < 2 ^ s.cfg.sw) : (s.calAcc.toNat + raw.toNat) / s.calCount.toNat < 2 ^ s.cfg.sw := by
  have hr : s.calRemain.toNat = 1 := congrArg BitVec.toNat hremain
  have hle := h.remain_le
  have hsum : s.calAcc.toNat + raw.toNat ≤ s.calCount.toNat * (2 ^ s.cfg.sw - 1) := by
    simpa [hr, Nat.sub_add_cancel (hr ▸ hle)] using h.acc_add_le hraw
  exact (Nat.div_le_of_le_mul hsum).trans_lt (Nat.sub_one_lt (Nat.two_pow_pos _).ne')

/-- The mean that completes calibration when `raw` is the last sample (40_smoother.md R115). -/
def lastMean (s : State) (raw : Half) : Half :=
  BitVec.ofNat 16 ((s.calAcc + raw.setWidth 32).toNat / s.calCount.toNat)

theorem exec_calSample_last {s : State} {raw : Half} (hf : s.faulted = false) (hactive : s.calActive = true)
    (hraw : raw.toNat < 2 ^ s.cfg.sw) (hremain : s.calRemain = 1) :
    exec (.calSample false raw) s =
      .next { s with
        calAcc := s.calAcc + raw.setWidth 32
        calRemain := 0
        offset := lastMean s raw
        calActive := false
        calDone := true
        responses := s.responses ++ [⟨.ok, (lastMean s raw).setWidth 32⟩] } := by
  have hfault : faultOf (.calSample false raw) s = none := by
    simp [faultOf_calSample, hactive, hraw]
  have hzero : s.calRemain - 1 = 0 := by rw [hremain]; rfl
  rw [exec_performs (.inl hf) hfault rfl, takeCalibrationSample_last hzero, hzero]
  rfl

/-- Settles O19: `exec_calSample_last` gives the whole next state; under the invariant neither the 32-bit sum nor the
16-bit mean loses a bit. -/
theorem lastCalSampleSetsOffset : Obligations.LastCalSampleSetsOffset := by
  intro s raw hinv hf hactive hraw hremain
  have hsum := hinv.calibration.calAcc_add_toNat (hinv.calibration.active_remain hactive) hraw
  have hmean : (s.calAcc + raw.setWidth 32).toNat / s.calCount.toNat < 2 ^ s.cfg.sw := by
    rw [hsum]
    exact hinv.calibration.mean_lt hremain hraw
  have hoffset : (lastMean s raw).toNat = (s.calAcc + raw.setWidth 32).toNat / s.calCount.toNat :=
    Nat.mod_eq_of_lt (hmean.trans_le (Cfg.two_pow_sw_le s.cfg))
  exact ⟨_, exec_calSample_last hf hactive hraw hremain, rfl, hsum, hoffset, hoffset.trans_lt hmean⟩

/-! ## What the calibration commands leave alone (40_smoother.md R118) -/

/-- Settles O53: an ignored or faulted command writes only responses and fault registers; a performed one is
`startCalibration`, or `takeCalibrationSample` with its frame. -/
theorem calibrationLeavesTheRestAlone : Obligations.CalibrationLeavesTheRestAlone := by
  intro s t i hop h
  obtain ⟨-, -, rfl⟩ | ⟨-, f, info, -, rfl⟩ | ⟨-, -, hp⟩ := exec_cases h
  · exact ⟨rfl, fun _ => ⟨rfl, rfl⟩, fun _ => rfl⟩
  · exact ⟨rfl, fun _ => ⟨rfl, rfl⟩, fun _ => rfl⟩
  · cases i with
    | calStart count => cases hp; exact ⟨rfl, fun _ => ⟨rfl, rfl⟩, nofun⟩
    | calSample err raw =>
      cases hp
      rw [takeCalibrationSample_frame]
      exact ⟨rfl, nofun, fun _ => rfl⟩
    | _ => simp [Instr.op] at hop

end Sys2Proof.Machine
end

section
namespace Sys2Proof.Machine

/-! ## The amplitude (41_detection.md R131) -/

theorem Inv.smoothed_le {s : State} (h : Inv s) : s.smoothed.toNat ≤ 2 ^ s.cfg.sw - 1 := by
  have hsum : ringSum s.ring ≤ s.cfg.w * (2 ^ s.cfg.sw - 1) :=
    h.stores.ring_length ▸ ringSum_le s.ring _ fun v hv => Nat.le_sub_one_of_lt (h.smoother.ring_lt v hv)
  rw [h.smoother.smoothed_eq]
  exact Nat.div_le_of_le_mul hsum

theorem CalibrationOk.offset_le {s : State} (h : CalibrationOk s) (hdone : s.calDone = true) :
    s.offset.toNat ≤ 2 ^ s.cfg.sw - 1 := by
  have hsum : s.calAcc.toNat ≤ s.calCount.toNat * (2 ^ s.cfg.sw - 1) :=
    h.acc_le.trans (Nat.mul_le_mul_right _ (Nat.sub_le _ _))
  rw [h.done_offset hdone]
  exact Nat.div_le_of_le_mul hsum

/-- Two samples are less than 2^SW apart. -/
theorem Inv.distance_le {s : State} (h : Inv s) (hdone : s.calDone = true) :
    ((s.smoothed.toNat : Int) - (s.offset.toNat : Int)).natAbs ≤ 2 ^ s.cfg.sw - 1 := by
  have hsmoothed := h.smoothed_le
  have hoffset := h.calibration.offset_le hdone
  omega

/-- The product of R131 fits in 32 bits, by the legal range of GAIN_NUM (00_scope.md R7). -/
theorem Cfg.mul_gainNum_lt (c : Cfg) {d : Nat} (h : d ≤ 2 ^ c.sw - 1) : d * c.gainNum < 2 ^ 32 := by
  obtain ⟨-, -, -, ⟨-, -, -, hgain⟩, -⟩ := c.legal
  exact (Nat.mul_le_mul_right _ h).trans_lt hgain

/-- A TICK that no check stops answers the state of the tick, with the amplitude as the response (R140). -/
theorem TickAdmitted.exec_tick {s : State} (h : TickAdmitted s) (now : Word) :
    exec (.tick now) s = .next ((tickState s now).respond .ok (BitVec.ofNat 32 (amplitudeOf s))) := by
  have hfault : faultOf (.tick now) s = none := by
    simp [faultOf_tick, h.not_calibrating, h.calibrated]
  rw [exec_performs (.inl h.not_faulted) hfault ⟨h.pixels, rfl⟩, tickState_amplitude]

/-- Settles O24: under the invariant SMOOTHED and OFFSET are samples, so the product, and with it the quotient, fits in
AMPLITUDE. -/
theorem amplitudeIsExactFloor : Obligations.AmplitudeIsExactFloor := by
  intro s now hinv hadm
  have hdistance := hinv.distance_le hadm.calibrated
  have hproduct := Cfg.mul_gainNum_lt s.cfg hdistance
  have hamp : (BitVec.ofNat 32 (amplitudeOf s)).toNat = amplitudeOf s :=
    Nat.mod_eq_of_lt ((Nat.div_le_self _ _).trans_lt hproduct)
  refine ⟨_, hadm.exec_tick now, ⟨?_, hdistance, hproduct⟩, ?_⟩
  · rw [State.respond_amplitude, tickState_amplitude, hamp, amplitudeOf]
  · rw [State.respond_responses, tickState_responses, State.respond_amplitude, tickState_amplitude]

/-! ## The gate and the hold timer (41_detection.md R132, R133) -/

theorem gateOpen_iff {s : State} {now : Word} :
    gateOpen s now = true ↔ s.debPending = false ∨ s.cfg.debounce ≤ (now - s.deactTime).toNat := by
  simp [gateOpen]

theorem held_iff {s : State} {now : Word} : held s now = true ↔ s.cfg.hold ≤ (now - s.actTime).toNat :=
  decide_eq_true_iff

/-- Settles O25: the steps of a tick are its definition; `gateOpen_iff` tells the three cases of the gate apart. -/
theorem gateOpensWhenDebounceElapsed : Obligations.GateOpensWhenDebounceElapsed := by
  intro s now
  refine ⟨rfl, fun hpending => ?_, fun _ helapsed => ?_, fun hpending hearly => ?_⟩
  · have hopen : gateOpen s now = true := gateOpen_iff.2 (.inl hpending)
    exact ⟨hopen, by rw [settleGate_open hopen, ← hpending]⟩
  · have hopen : gateOpen s now = true := gateOpen_iff.2 (.inr helapsed)
    exact ⟨hopen, settleGate_open hopen⟩
  · have hclosed : gateOpen s now = false := Bool.eq_false_iff.2 fun hopen =>
      (gateOpen_iff.1 hopen).elim (by simp [hpending]) hearly.not_ge
    exact ⟨hclosed, settleGate_closed hclosed⟩

/-! ## The two edges of a tick (41_detection.md R135 to R137) -/

/-- The third row of R135. -/
theorem tickState_activates {s : State} {now : Word} (hidle : s.detState = .idle) (hgate : gateOpen s now = true)
    (htrigger : s.cfg.threshold < amplitudeOf s) (hhold : 1 ≤ s.cfg.hold) :
    tickState s now = activate { writeAmplitude s with debPending := false } now := by
  obtain ⟨-, hclosed, -⟩ | ⟨-, -, hquiet, -⟩ | ⟨-, -, -, -, ht⟩ | ⟨-, -, -, hzero, -⟩ | ⟨hactive, -⟩ | ⟨hactive, -⟩ :=
    tickState_cases s now
  · simp [hgate] at hclosed
  · omega
  · rw [ht, settleGate_open (gateOpen_writeAmplitude s now ▸ hgate)]
  · omega
  · simp [hidle] at hactive
  · simp [hidle] at hactive

/-- What the gate does to DEB_PENDING is lost on the Active → Idle edge, which sets it. -/
theorem deactivate_settleGate (s : State) (now : Word) : deactivate (settleGate s now) now = deactivate s now := by
  cases hgate : gateOpen s now
  · rw [settleGate_closed hgate]
  · rw [settleGate_open hgate, deactivate_eq, deactivate_eq]

/-- The last row of R135. -/
theorem tickState_deactivates {s : State} {now : Word} (hactive : s.detState = .active) (hheld : held s now = true) :
    tickState s now = deactivate (writeAmplitude s) now := by
  obtain ⟨hidle, -⟩ | ⟨hidle, -⟩ | ⟨hidle, -⟩ | ⟨hidle, -⟩ | ⟨-, hearly, -⟩ | ⟨-, -, ht⟩ := tickState_cases s now
  iterate 4 · simp [hactive] at hidle
  · simp [hheld] at hearly
  · rw [ht, deactivate_settleGate]

/-- Settles O29: the tick is `activate` on the state with the gate settled, and its four appends to OUT are one. -/
theorem tickActivates : Obligations.TickActivates := by
  intro s now hadm hidle hgate htrigger hhold
  rw [hadm.exec_tick, tickState_activates hidle (gateOpen_iff.2 hgate) htrigger hhold, activate_eq]
  simp [State.respond, writeAmplitude]

/-- The frame of a cleared buffer is 3·NPIX zero bytes (42_pixel.md R169). -/
theorem frameBytes_replicate_black (n : Nat) :
    frameBytes (List.replicate n Colour.black) = List.replicate (3 * n) 0 := by
  have hblack : wireBytes Colour.black = List.replicate 3 0 := rfl
  rw [frameBytes, List.flatMap_def, List.map_replicate, hblack, List.flatten_replicate_replicate, Nat.mul_comm]

/-- Settles O32: the tick is `deactivate`, whatever the gate, and its four appends to OUT are one. -/
theorem tickDeactivates : Obligations.TickDeactivates := by
  intro s now hadm hactive hheld
  rw [hadm.exec_tick, tickState_deactivates hactive (held_iff.2 hheld), deactivate_eq,
    frameBytes_replicate_black]
  simp [State.respond, writeAmplitude, Colour.black]

end Sys2Proof.Machine
end

section
namespace Sys2Proof

/-! ## The pattern tables (00_scope.md R7) -/

/-- Legality makes every index of ALARM and IDLE a pixel of the buffer (42_pixel.md R161, R166). -/
theorem Cfg.tables_index_lt (c : Cfg) : (∀ e ∈ c.alarm, e.index < c.npix) ∧ (∀ e ∈ c.idle, e.index < c.npix) := by
  obtain ⟨-, -, -, -, -, -, -, -, htables⟩ := c.legal
  exact htables

theorem Config.filter_index_12_not12 (l : List (Fin 25 × Colour)) :
    (Config.not12 l).filter (fun e => decide (e.index = 12)) = [] := by
  refine List.filter_eq_nil_iff.2 fun e he => ?_
  obtain ⟨x, hx, rfl⟩ := List.mem_map.1 he
  simpa using (List.mem_filter.1 hx).2

theorem Config.filter_index_12_referenceAlarm :
    Config.referenceAlarm.filter (fun e => decide (e.index = 12)) =
      [⟨12, Config.openAlarmColour12⟩, ⟨12, Config.openAlarmColour12⟩] := by
  simp [Config.referenceAlarm, List.filter_append, Config.filter_index_12_not12]

end Sys2Proof

namespace Sys2Proof.Machine

/-! ## The Pixel Buffer (42_pixel.md R161, R166) -/

/-- A painted pixel holds the colour of the last entry that names it, or what it held before. -/
theorem paint_getElem? (pix : List Colour) (table : List PatternEntry) {k : Nat} (hk : k < pix.length) :
    (paint pix table)[k]? =
      ((table.filter fun e => decide (e.index = k)).getLast?.map PatternEntry.colour).or pix[k]? := by
  induction table generalizing pix with
  | nil => rfl
  | cons e es ih =>
    rw [paint_cons, ih _ (by rwa [List.length_set])]
    by_cases he : e.index = k
    · rw [List.filter_cons_of_pos (by simpa using he), List.getLast?_cons, he, List.getElem?_set_self hk]
      cases (es.filter fun e => decide (e.index = k)).getLast? <;> rfl
    · rw [List.filter_cons_of_neg (by simpa using he), List.getElem?_set_ne he]

/-- Settles O39: the index check is the one check of PIX_SET that applies, and a configuration is legal only if its
tables pass it. -/
theorem pixelIndexIsChecked : Obligations.PixelIndexIsChecked := by
  refine ⟨fun s index r g b hf hactive hindex => ?_, Cfg.tables_index_lt⟩
  have hfault : faultOf (.pixSet index r g b) s = some (.indexOutOfRange, index.setWidth 16) := by
    simp [faultOf_pixSet, hactive, hindex]
  exact exec_raises hf hfault

/-- Settles O42: a render paints the pixels and flushes them once. -/
theorem renderSetsEntriesThenFlushes : Obligations.RenderSetsEntriesThenFlushes := by
  refine ⟨fun s table => ⟨paint s.pix table, render_eq s table, paint_length s.pix table, fun k hk => ?_⟩,
    fun c e he => ?_, Config.openAlarmColour12, Config.filter_index_12_referenceAlarm⟩
  · rw [paint_getElem? s.pix table hk]
    cases (table.filter fun e => decide (e.index = k)).getLast? <;> rfl
  · exact (List.mem_append.1 he).elim (c.tables_index_lt.1 e) (c.tables_index_lt.2 e)

end Sys2Proof.Machine
end

section
namespace Sys2Proof

theorem fieldOp_eq (cw : CmdWord) : fieldOp cw = (cw >>> 60).setWidth 4 :=
  BitVec.setWidth_ushiftRight_eq_extractLsb.symm

theorem op_code_of_decode {sw : Nat} {cw : CmdWord} {i : Instr} (h : decode sw cw = .cmd i) :
    i.op.code = fieldOp cw := by
  obtain ⟨op, hop, rfl, -⟩ := decode_eq_cmd h
  rw [operandsOf_op, hop]

theorem Instr.eq_rdreg_of_op {i : Instr} (h : i.op = .rdreg) : ∃ addr, i = .rdreg addr := by
  cases i with
  | rdreg addr => exact ⟨addr, rfl⟩
  | _ => simp [Instr.op] at h

end Sys2Proof

namespace Sys2Proof.Machine

/-! ## What a step does to FAULTED (60_exceptions.md R210 to R212) -/

/-- A step waits, resets, or takes a command word. -/
theorem step_input_cases {s t : State} (h : step s = .next t) :
    t = s ∨ (∃ rest, s.inputs = .reset :: rest ∧ t = { State.resetWith s.cfg with inputs := rest }) ∨
      ∃ cw rest, s.inputs = .command cw :: rest := by
  obtain ⟨-, ht⟩ | hreset | ⟨cw, rest, i, hin, -⟩ | ⟨cw, rest, why, hin, -⟩ := step_cases h
  · exact .inl ht
  · exact .inr (.inl hreset)
  · exact .inr (.inr ⟨cw, rest, hin⟩)
  · exact .inr (.inr ⟨cw, rest, hin⟩)

theorem Performs.faulted_eq {i : Instr} {s t : State} (h : Performs i s t) : t.faulted = s.faulted := by
  obtain ⟨data, -, hfaulted⟩ | ⟨addr, -, -, rfl⟩ := h.response
  · exact hfaulted
  · rfl

/-- RDREG writes nothing but its response, OK or BADREG (43_control.md R182). -/
theorem Performs.rdreg_responds {addr : Half} {s t : State} (h : Performs (.rdreg addr) s t) :
    ∃ r : Response, (r.rc = .ok ∨ r.rc = .badreg) ∧ t = s.respond r.rc r.data := by
  obtain ⟨-, rfl⟩ | ⟨reg, v, -, -, rfl⟩ := h
  · exact ⟨⟨.badreg, 0⟩, .inr rfl, rfl⟩
  · exact ⟨⟨.ok, v⟩, .inl rfl, rfl⟩

/-- A faulted block only responds: every step but reset leaves the rest of the state as it was. -/
theorem step_of_faulted {s t : State} (hf : s.faulted = true) (hreset : ∀ rest, s.inputs ≠ .reset :: rest)
    (h : step s = .next t) : t = { s with inputs := t.inputs, responses := t.responses } := by
  obtain rfl | ⟨rest, hin, -⟩ | ⟨cw, rest, hin⟩ := step_input_cases h
  · rfl
  · exact absurd hin (hreset rest)
  · obtain ⟨-, rfl⟩ | ⟨hclear, -⟩ | ⟨i, -, hrun, -, hp⟩ := step_command_cases hin h
    · rfl
    · simp [hf] at hclear
    · obtain ⟨addr, rfl⟩ := Instr.eq_rdreg_of_op (hrun hf)
      obtain ⟨r, -, rfl⟩ := hp.rdreg_responds
      rfl

/-- The one way into FAULTED is fault entry. -/
theorem step_into_faulted {s t : State} (hf : s.faulted = false) (ht : t.faulted = true) (h : step s = .next t) :
    ∃ f op info, t = raiseFault (takeInput s) f op info := by
  obtain rfl | ⟨rest, -, rfl⟩ | ⟨cw, rest, hin⟩ := step_input_cases h
  · simp [hf] at ht
  · simp [State.resetWith] at ht
  · obtain ⟨hset, -⟩ | ⟨-, hraise⟩ | ⟨i, -, -, -, hp⟩ := step_command_cases hin h
    · simp [hf] at hset
    · rwa [takeInput, hin]
    · simp [hp.faulted_eq, hf] at ht

/-- Settles O11: the one way into FAULTED is fault entry, which writes the fault registers and the response. -/
theorem faultsArePrecise : Obligations.FaultsArePrecise := by
  intro s t h hf ht
  obtain ⟨f, op, info, rfl⟩ := step_into_faulted hf ht h
  rfl

/-! ## The faulted block (60_exceptions.md R212) -/

/-- With the stores there, RDREG answers in every state, FAULTED or not. -/
theorem StoresOk.exec_rdreg {s : State} (h : StoresOk s) (addr : Half) :
    ∃ r : Response, (r.rc = .ok ∨ r.rc = .badreg) ∧ exec (.rdreg addr) s = .next (s.respond r.rc r.data) := by
  obtain ⟨t, hp⟩ := h.exists_performs (.rdreg addr)
  have hexec : exec (.rdreg addr) s = .next t := exec_performs (.inr rfl) (faultOf_rdreg addr s) hp
  obtain ⟨r, hr, rfl⟩ := hp.rdreg_responds
  exact ⟨r, hr, hexec⟩

/-- A faulted block ignores every word that is not an RDREG, legal or illegal. -/
theorem step_ignores {s : State} {cw : CmdWord} {rest : List HostInput} (hf : s.faulted = true)
    (hin : s.inputs = .command cw :: rest) (hd : ∀ addr, decode s.cfg.sw cw ≠ .cmd (.rdreg addr)) :
    step s = .next (State.respond { s with inputs := rest } .ignored 0) := by
  cases hdec : decode s.cfg.sw cw with
  | cmd i =>
    have hop : i.op ≠ .rdreg := fun hop => by
      obtain ⟨addr, rfl⟩ := Instr.eq_rdreg_of_op hop
      exact hd addr hdec
    exact (step_of_command hin hdec).trans (exec_ignored hf hop)
  | illegal why =>
    exact (step_of_illegal_word hin hdec).trans (congrArg Host.Outcome.next (issueIllegal_faulted why _ hf))

/-- Settles O10: RDREG is the one command the execution cycle performs while FAULTED, and `step_of_faulted` leaves the
fault registers to reset. -/
theorem faultedBlockRunsOnlyRdreg : Obligations.FaultedBlockRunsOnlyRdreg := by
  refine fun s hf => ⟨fun cw rest hin => ⟨fun addr hd => ?_, step_ignores hf hin⟩,
    fun rest hin => ⟨_, step_of_reset_input hin, rfl⟩, fun t h hreset => ?_⟩
  · have hstep := step_of_command hin hd
    refine ⟨hstep, fun hs => ?_⟩
    have htaken : StoresOk { s with inputs := rest } := hs.of_eq rfl rfl rfl rfl
    obtain ⟨r, hr, hexec⟩ := htaken.exec_rdreg addr
    exact ⟨r, hr, hstep.trans hexec⟩
  · rw [step_of_faulted hf hreset h]
    exact ⟨hf, rfl, rfl, rfl⟩

/-! ## The first fault (60_exceptions.md R210, R216) -/

theorem firstFault_of_illegal {s : State} {cw : CmdWord} {why : IllegalWord} (h : decode s.cfg.sw cw = .illegal why) :
    firstFault s cw = some (FaultKind.illegalCommand.code, why.info) := by
  cases why <;> simp [firstFault, h, FaultKind.code, IllegalWord.info]

/-- The fault the table names for a word is the one the step raises, on the word's own OP field. -/
theorem step_raises_firstFault {s : State} {cw : CmdWord} {rest : List HostInput} {code : BitVec 8} {info : Half}
    (hin : s.inputs = .command cw :: rest) (hf : s.faulted = false) (h : firstFault s cw = some (code, info)) :
    ∃ f : FaultKind, f.code = code ∧
      step s = .next (raiseFault { s with inputs := rest } f (fieldOp cw) info) := by
  cases hd : decode s.cfg.sw cw with
  | cmd i =>
    rw [firstFault_of_decode hd] at h
    obtain ⟨⟨f, _⟩, hfault, hcode⟩ := Option.map_eq_some_iff.1 h
    obtain ⟨rfl, rfl⟩ := Prod.mk.inj hcode
    rw [← op_code_of_decode hd]
    exact ⟨f, rfl, (step_of_command hin hd).trans (exec_raises hf hfault)⟩
  | illegal why =>
    rw [firstFault_of_illegal hd] at h
    obtain ⟨rfl, rfl⟩ := Prod.mk.inj (Option.some.inj h)
    exact ⟨.illegalCommand, rfl,
      (step_of_illegal_word hin hd).trans (congrArg Host.Outcome.next (issueIllegal_raises why _ hf))⟩

/-- Settles O9: `step_raises_firstFault` is fault entry with the table's fault; a faulted block only responds. -/
theorem firstFaultIsTaken : Obligations.FirstFaultIsTaken := by
  refine ⟨fun s t cw rest hin hf h => ?_, fun s cw rest code info hin hf hfirst => ?_⟩
  · rw [step_of_faulted hf (by simp [hin]) h]
    exact ⟨hf, rfl, rfl, rfl⟩
  · obtain ⟨f, rfl, hstep⟩ := step_raises_firstFault hin hf hfirst
    exact ⟨_, hstep, rfl, fieldOp_eq cw ▸ rfl⟩

/-! ## Which commands run in which phase of calibration (60_exceptions.md R214, R215) -/

/-- With the stores there, a command that passes every check completes. -/
theorem StoresOk.exec_completes {i : Instr} {s : State} (h : StoresOk s) (hf : s.faulted = false)
    (ho : faultOf i s = none) : ∃ t, exec i s = .next t ∧ t.faulted = false := by
  obtain ⟨t, hp⟩ := h.exists_performs i
  exact ⟨t, exec_performs (.inl hf) ho hp, hp.faulted_eq.trans hf⟩

/-- The checks of a legal command while CAL_ACTIVE = 1 (R214). -/
theorem faultOf_calibrating {i : Instr} {s : State} (hactive : s.calActive = true) (hwf : i.wellFormed s.cfg.sw = true) :
    faultOf i s =
      if runsInCalibration i then if errOf i then some (.acquisitionFailure, 0) else none
      else some (.calSequence, 1) := by
  cases i with
  | nop => exact faultOf_nop s
  | rdreg addr => exact faultOf_rdreg addr s
  | calSample err raw =>
    rw [faultOf_calSample, if_neg (Nat.not_le.2 (of_decide_eq_true hwf)), if_neg (by simp [hactive])]
    rfl
  | push err raw =>
    rw [faultOf_push, if_neg (Nat.not_le.2 (of_decide_eq_true hwf)), if_pos hactive]
    rfl
  | step err raw now =>
    rw [faultOf_step, if_neg (Nat.not_le.2 (of_decide_eq_true hwf)), if_pos hactive]
    rfl
  | calStart count => rw [faultOf_calStart, if_pos hactive]; rfl
  | tick now => rw [faultOf_tick, if_pos hactive]; rfl
  | pixSet index r g b => rw [faultOf_pixSet, if_pos hactive]; rfl
  | pixClear => rw [faultOf_pixClear, if_pos hactive]; rfl
  | pixFlush => rw [faultOf_pixFlush, if_pos hactive]; rfl

/-- Settles O12: `faultOf_calibrating` tells the three admitted commands from the others; outside calibration the
sequence check of CAL_SAMPLE is the first that applies. -/
theorem calibrationAdmitsOnlyItsCommands : Obligations.CalibrationAdmitsOnlyItsCommands := by
  refine ⟨fun s i hf hactive hwf hsample hnop hrdreg => ?_, fun s i hf hactive hwf hs herr hop => ?_,
    fun s err raw hf hactive hraw => ?_⟩
  · have hfault : faultOf i s = some (.calSequence, 1) := by
      simp [faultOf_calibrating hactive hwf, runsInCalibration, hsample, hnop, hrdreg]
    exact exec_raises hf hfault
  · have hfault : faultOf i s = none := by
      simp [faultOf_calibrating hactive hwf, runsInCalibration, hop, herr]
    exact hs.exec_completes hf hfault
  · have hfault : faultOf (.calSample err raw) s = some (.calSequence, 2) := by
      simp [faultOf_calSample, hactive, hraw]
    exact exec_raises hf hfault

/-- Before calibration the check of R215 is the first that applies to TICK and STEP. -/
theorem faultOf_detection_uncalibrated {i : Instr} {s : State} (hactive : s.calActive = false)
    (hdone : s.calDone = false) (hwf : i.wellFormed s.cfg.sw = true) (hop : i.op = .tick ∨ i.op = .step) :
    faultOf i s = some (.notCalibrated, 0) := by
  cases i with
  | tick now => simp [faultOf_tick, hactive, hdone]
  | step err raw now =>
    have hraw : raw.toNat < 2 ^ s.cfg.sw := of_decide_eq_true hwf
    simp [faultOf_step, hactive, hdone, hraw]
  | _ => simp [Instr.op] at hop

/-- Outside calibration no check applies to a legal PUSH, pixel command, NOP or RDREG but those of E and the pixel
index. -/
theorem faultOf_no_calibration_needed {i : Instr} {s : State} (hactive : s.calActive = false)
    (hwf : i.wellFormed s.cfg.sw = true) (herr : errOf i = false)
    (hindex : ∀ index, indexOf i = some index → index.toNat < s.cfg.npix)
    (hop : i.op = .push ∨ i.op = .pixSet ∨ i.op = .pixClear ∨ i.op = .pixFlush ∨ i.op = .nop ∨ i.op = .rdreg) :
    faultOf i s = none := by
  cases i with
  | push err raw =>
    have hraw : raw.toNat < 2 ^ s.cfg.sw := of_decide_eq_true hwf
    have herr : err = false := herr
    simp [faultOf_push, hactive, hraw, herr]
  | pixSet index r g b =>
    have hlt : index.toNat < s.cfg.npix := hindex index rfl
    simp [faultOf_pixSet, hactive, hlt]
  | pixClear => simp [faultOf_pixClear, hactive]
  | pixFlush => simp [faultOf_pixFlush, hactive]
  | nop => exact faultOf_nop s
  | rdreg addr => exact faultOf_rdreg addr s
  | _ => simp [Instr.op] at hop

/-- Settles O13: before calibration NOT_CALIBRATED is the first check that applies to TICK and STEP, and no check reads
CAL_DONE for the six other commands. -/
theorem detectionNeedsCalibration : Obligations.DetectionNeedsCalibration :=
  ⟨fun _ _ hf hactive hdone hwf hop => exec_raises hf (faultOf_detection_uncalibrated hactive hdone hwf hop),
    fun _ _ hf hactive _ hwf hs herr hindex hop =>
      hs.exec_completes hf (faultOf_no_calibration_needed hactive hwf herr hindex hop)⟩

end Sys2Proof.Machine
end

section
namespace Sys2Proof.Machine

/-! ## The colour of PIX_SET in T (30_encoding.md R81, R100) -/

theorem pack_getLsbD (c : Colour) (k : Nat) :
    (pack c).getLsbD k =
      if k < 8 then c.b.getLsbD k else if k < 16 then c.g.getLsbD (k - 8) else if k < 24 then c.r.getLsbD (k - 16)
      else false := by
  unfold pack
  change BitVec.getLsbD (w := 8 + 8 + 8 + 8) _ k = _
  simp only [BitVec.getLsbD_append, BitVec.getLsbD_zero]
  rcases Nat.lt_or_ge k 8 with h8 | h8
  · rw [if_pos h8, if_pos h8]
  rcases Nat.lt_or_ge k 16 with h16 | h16
  · simp (disch := omega) only [if_pos, if_neg]
  rcases Nat.lt_or_ge k 24 with h24 | h24
  · simp (disch := omega) only [if_pos, if_neg, Nat.sub_sub, Nat.reduceAdd]
  · simp (disch := omega) only [if_neg]

theorem colourOfT_pack (c : Colour) : colourOfT (pack c) = c := by
  have hr : (pack c).extractLsb' 16 8 = c.r := BitVec.eq_of_getLsbD_eq fun k hk => by
    rw [BitVec.getLsbD_extractLsb', pack_getLsbD, if_neg (by omega), if_neg (by omega), if_pos (by omega)]
    simp [hk]
  have hg : (pack c).extractLsb' 8 8 = c.g := BitVec.eq_of_getLsbD_eq fun k hk => by
    rw [BitVec.getLsbD_extractLsb', pack_getLsbD, if_neg (by omega), if_pos (by omega)]
    simp [hk]
  have hb : (pack c).extractLsb' 0 8 = c.b := BitVec.eq_of_getLsbD_eq fun k hk => by
    rw [BitVec.getLsbD_extractLsb', pack_getLsbD, if_pos (by omega)]
    simp [hk]
  rw [colourOfT, hr, hg, hb]

theorem pack_colourOfT {t : Word} (h : t.extractLsb' 24 8 = 0) : pack (colourOfT t) = t := by
  refine BitVec.eq_of_getLsbD_eq fun k hk => ?_
  have htop : 24 ≤ k → t.getLsbD k = false := fun h24 => by
    simpa [show k - 24 < 8 by omega, Nat.add_sub_cancel' h24] using congrArg (BitVec.getLsbD · (k - 24)) h
  rw [pack_getLsbD]
  split_ifs with h8 h16 h24
  · simp [colourOfT, h8]
  · simp [colourOfT, show k - 8 < 8 by omega, Nat.add_sub_cancel' (Nat.not_lt.1 h8)]
  · simp [colourOfT, show k - 16 < 8 by omega, Nat.add_sub_cancel' (Nat.not_lt.1 h16)]
  · exact (htop (Nat.not_lt.1 h24)).symm

end Sys2Proof.Machine

namespace Sys2Proof

open Machine (pack colourOfT_pack pack_colourOfT)

/-! ## Decode of encode (30_encoding.md sections 2 to 4) -/

theorem matchesRow (i : Instr) : Laws.MatchesRow.Statement i := by
  cases i with
  | nop => exact Laws.MatchesRow.nop
  | calStart count => exact Laws.MatchesRow.calStart count
  | calSample err raw => exact Laws.MatchesRow.calSample err raw
  | push err raw => exact Laws.MatchesRow.push err raw
  | tick now => exact Laws.MatchesRow.tick now
  | step err raw now => exact Laws.MatchesRow.step err raw now
  | pixSet index r g b => exact Laws.MatchesRow.pixSet index r g b
  | pixClear => exact Laws.MatchesRow.pixClear
  | pixFlush => exact Laws.MatchesRow.pixFlush
  | rdreg addr => exact Laws.MatchesRow.rdreg addr

/-- The operands read from a command's word are the command's own (R84). -/
theorem operandsOf_encode (i : Instr) : operandsOf i.op (encode i) = i := by
  cases i with
  | pixSet index r g b =>
    have hcolour : colourOfT (0#8 ++ r ++ g ++ b) = ⟨r, g, b⟩ := colourOfT_pack ⟨r, g, b⟩
    simp only [operandsOf, Instr.op, encode, fieldI_assemble, fieldT_assemble, hcolour]
  | _ => simp only [operandsOf, Instr.op, encode, fieldE_assemble, fieldS_assemble, fieldT_assemble]

/-- A command whose sample is in range passes the sample check of its row (R85). -/
theorem sample_in_range_of_wellFormed {sw : Nat} {i : Instr} {row : OpRow} (hrow : rowOf i.op.code = some row)
    (h : i.wellFormed sw = true) : ¬(row.format.hasSample = true ∧ 2 ^ sw ≤ (fieldS (encode i)).toNat) := by
  cases i with
  | calSample err raw => simpa [encode, Instr.wellFormed] using fun _ => h
  | push err raw => simpa [encode, Instr.wellFormed] using fun _ => h
  | step err raw now => simpa [encode, Instr.wellFormed] using fun _ => h
  | _ => cases hrow; exact fun hsample => nomatch hsample.1

/-- Settles O1: the command's word selects and matches the command's row, its sample passes the check, and the operands
read back are its own. -/
theorem decodeOfEncodeIsSelf : Obligations.DecodeOfEncodeIsSelf := by
  intro sw i hwf
  obtain ⟨row, hrow, hop, hmask⟩ := matchesRow i
  have hsample := sample_in_range_of_wellFormed (fieldOp_encode i ▸ hrow) hwf
  rw [decode, hrow]
  dsimp only
  rw [if_neg (not_not.2 hmask), if_neg hsample, hop, operandsOf_encode]

/-! ## Encode of decode -/

/-- A word with its reserved bits zero is assembled from its fields (R81). -/
theorem assemble_eq_of_fields {cw : CmdWord} {op : BitVec 4} {e : Bool} {i : Byte} {s : Half} {t : Word}
    (hop : fieldOp cw = op) (he : fieldE cw = e) (hreserved : cw.extractLsb' 56 3 = 0) (hi : fieldI cw = i)
    (hs : fieldS cw = s) (ht : fieldT cw = t) : assemble op e i s t = cw := by
  subst hop he hi hs ht
  refine BitVec.eq_of_getLsbD_eq fun j hj => ?_
  have hgap : 56 ≤ j → j < 59 → cw.getLsbD j = false := fun h56 h59 => by
    simpa [show j - 56 < 3 by omega, Nat.add_sub_cancel' h56] using congrArg (BitVec.getLsbD · (j - 56)) hreserved
  rw [assemble_getLsbD]
  simp only [fieldOp, fieldE, fieldI, fieldS, fieldT, BitVec.getLsbD_extractLsb']
  split_ifs with h32 h48 h56 h59 h60
  · simp [h32]
  · simp [show j - 32 < 16 by omega, Nat.add_sub_cancel' (Nat.not_lt.1 h32)]
  · simp [show j - 48 < 8 by omega, Nat.add_sub_cancel' (Nat.not_lt.1 h48)]
  · exact (hgap (Nat.not_lt.1 h56) h59).symm
  · obtain rfl : j = 59 := by omega
    simp
  · simp [show j - 60 < 4 by omega, Nat.add_sub_cancel' (Nat.not_lt.1 h60)]

/-- A field the mask keeps whole is the pattern's. -/
theorem extract_of_masked {cw mask pattern : CmdWord} (h : cw &&& mask = pattern) {start len : Nat}
    (hmask : mask.extractLsb' start len = BitVec.allOnes len) :
    cw.extractLsb' start len = pattern.extractLsb' start len := by
  rw [← h, BitVec.extractLsb'_and, hmask, BitVec.and_allOnes]

theorem fieldE_of_masked {cw mask pattern : CmdWord} (h : cw &&& mask = pattern) (hmask : fieldE mask = true) :
    fieldE cw = fieldE pattern := by
  rw [fieldE] at hmask
  rw [← h, fieldE, fieldE, BitVec.getLsbD_and, hmask, Bool.and_true]

/-- The command of a word that matches its row has that word (R82, R83). -/
theorem encode_operandsOf {op : Op} {cw : CmdWord} {row : OpRow} (hop : fieldOp cw = op.code)
    (hrow : rowOf op.code = some row) (h : cw &&& row.mask = row.pattern) : encode (operandsOf op cw) = cw := by
  cases op
  all_goals obtain rfl := Option.some.inj hrow
  case nop | pixClear | pixFlush =>
    exact assemble_eq_of_fields hop (fieldE_of_masked h rfl) (extract_of_masked h rfl) (extract_of_masked h rfl)
      (extract_of_masked h rfl) (extract_of_masked h rfl)
  case calStart | rdreg =>
    exact assemble_eq_of_fields hop (fieldE_of_masked h rfl) (extract_of_masked h rfl) (extract_of_masked h rfl) rfl
      (extract_of_masked h rfl)
  case calSample | push =>
    exact assemble_eq_of_fields hop rfl (extract_of_masked h rfl) (extract_of_masked h rfl) rfl
      (extract_of_masked h rfl)
  case tick =>
    exact assemble_eq_of_fields hop (fieldE_of_masked h rfl) (extract_of_masked h rfl) (extract_of_masked h rfl)
      (extract_of_masked h rfl) rfl
  case step =>
    exact assemble_eq_of_fields hop rfl (extract_of_masked h rfl) (extract_of_masked h rfl) rfl rfl
  case pixSet =>
    have htop : (fieldT cw).extractLsb' 24 8 = 0 := by
      rw [fieldT_eq, BitVec.extractLsb'_setWidth_of_le (by decide)]
      exact extract_of_masked h rfl
    exact assemble_eq_of_fields hop (fieldE_of_masked h rfl) (extract_of_masked h rfl) rfl (extract_of_masked h rfl)
      (pack_colourOfT htop).symm

theorem masked_of_decode {sw : Nat} {cw : CmdWord} {i : Instr} {row : OpRow} (hrow : rowOf (fieldOp cw) = some row)
    (h : decode sw cw = .cmd i) : cw &&& row.mask = row.pattern := by
  simp only [decode, hrow] at h
  split_ifs at h with hreserved
  exact not_not.1 hreserved

/-- Settles O2: a word that decodes matches the row of its opcode, so no bit of it is lost, and the decoder has checked
its sample. -/
theorem encodeOfDecodeIsSelf : Obligations.EncodeOfDecodeIsSelf := by
  intro sw cw i h
  obtain ⟨op, hop, rfl, hwf⟩ := decode_eq_cmd h
  obtain ⟨row, hrow, -⟩ := rowOf_code op
  exact ⟨encode_operandsOf hop hrow (masked_of_decode (hop ▸ hrow) h), hwf⟩

/-- Settles O4: the decoder runs on each word, and O2 gives the way back. -/
theorem specExampleWordsDecode : Obligations.SpecExampleWordsDecode := by
  refine fun p hp => (and_iff_left_of_imp fun hd => (encodeOfDecodeIsSelf 12 p.1 p.2 hd).1).2 ?_
  revert p
  decide

end Sys2Proof
end

section
namespace Sys2Proof.Machine

/-! ## The step (00_scope.md R3; 30_encoding.md section 5) -/

/-- Settles O5: the word is taken from the host's inputs and its command executed. -/
theorem stepRunsDecodedCommand : Obligations.StepRunsDecodedCommand :=
  fun _ _ _ _ hin hd => step_of_command hin hd

/-- Settles O6: a faulted block ignores the word; any other takes the fault ILLEGAL_COMMAND. -/
theorem stepOfIllegalWord : Obligations.StepOfIllegalWord := by
  intro s cw rest why hin hd
  rw [step_of_illegal_word hin hd, ← fieldOp_eq]
  obtain hf | hf := Bool.eq_false_or_eq_true s.faulted
  · rw [if_pos hf]
    exact congrArg Host.Outcome.next (issueIllegal_faulted why _ hf)
  · rw [if_neg (Bool.eq_false_iff.1 hf)]
    exact congrArg Host.Outcome.next (issueIllegal_raises why _ hf)

/-- Settles O7: nothing is pending. -/
theorem noInputWaits : Obligations.NoInputWaits := fun s hin =>
  step_wait (by rw [pending, hin])

/-! ## Commands that complete (40_smoother.md, 42_pixel.md, 43_control.md) -/

/-- Settles O16: no check applies to NOP. -/
theorem nopCompletes : Obligations.NopCompletes := fun s hf =>
  exec_performs (.inl hf) (faultOf_nop s) rfl

/-- Settles O17: the three checks of CAL_START pass. -/
theorem calStartCompletes : Obligations.CalStartCompletes := by
  intro s count hf hactive hdone hcount
  have hfault : faultOf (.calStart count) s = none := by
    rw [faultOf_calStart, if_neg (by simp [hactive]), if_neg (by simp [hdone]), if_neg hcount]
  exact exec_performs (.inl hf) hfault rfl

theorem exec_calSample {s : State} {raw : Half} (hf : s.faulted = false) (hactive : s.calActive = true)
    (hraw : raw.toNat < 2 ^ s.cfg.sw) :
    exec (.calSample false raw) s =
      .next ((takeCalibrationSample s raw).respond .ok ((takeCalibrationSample s raw).offset.setWidth 32)) := by
  have hfault : faultOf (.calSample false raw) s = none := by
    simp [faultOf_calSample, hactive, hraw]
  exact exec_performs (.inl hf) hfault rfl

/-- Settles O18: the sample is not the last one, so OFFSET is left alone. -/
theorem calSampleAccumulates : Obligations.CalSampleAccumulates := by
  intro s raw hf hactive hraw hremain
  have hmore : s.calRemain - 1 ≠ 0 := fun h => hremain (sub_eq_zero.1 h)
  rw [exec_calSample hf hactive hraw, takeCalibrationSample_more hmore]
  rfl

theorem exec_push {s : State} {raw : Half} (hf : s.faulted = false) (hactive : s.calActive = false)
    (hraw : raw.toNat < 2 ^ s.cfg.sw) (hring : RingPresent s) :
    exec (.push false raw) s = .next ((pushSample s raw).respond .ok ((pushSample s raw).smoothed.setWidth 32)) := by
  have hfault : faultOf (.push false raw) s = none := by
    simp [faultOf_push, hactive, hraw]
  exact exec_performs (.inl hf) hfault ⟨hring, rfl⟩

/-- Settles O21: the performed push is `pushSample` with its average as the response. -/
theorem pushCompletes : Obligations.PushCompletes := fun _ _ hf hactive hraw hring =>
  ⟨_, exec_push hf hactive hraw hring, rfl⟩

/-- Settles O38: the index passes its check. -/
theorem pixSetCompletes : Obligations.PixSetCompletes := by
  intro s index r g b hf hactive hindex hpix
  have hfault : faultOf (.pixSet index r g b) s = none := by
    simp [faultOf_pixSet, hactive, hindex]
  exact exec_performs (.inl hf) hfault ⟨hpix, rfl⟩

/-- Settles O40: no check but that of CAL_ACTIVE applies to PIX_CLEAR. -/
theorem pixClearCompletes : Obligations.PixClearCompletes := by
  intro s hf hactive hpix
  have hfault : faultOf .pixClear s = none := by
    simp [faultOf_pixClear, hactive]
  exact exec_performs (.inl hf) hfault ⟨hpix, rfl⟩

theorem exec_pixFlush {s : State} (hf : s.faulted = false) (hactive : s.calActive = false) (hpix : PixelsPresent s) :
    exec .pixFlush s = .next ((flush s).respond .ok 0) := by
  have hfault : faultOf .pixFlush s = none := by
    simp [faultOf_pixFlush, hactive]
  exact exec_performs (.inl hf) hfault ⟨hpix, rfl⟩

/-! ## The bytes of a frame (42_pixel.md R164) -/

@[simp] theorem frameBytes_cons (c : Colour) (cs : List Colour) :
    frameBytes (c :: cs) = c.g :: c.r :: c.b :: frameBytes cs := rfl

/-- Bytes 3k, 3k + 1 and 3k + 2 of a frame are green, red and blue of pixel k. -/
theorem frameBytes_getElem? {pix : List Colour} {k : Nat} {c : Colour} (h : pix[k]? = some c) :
    (frameBytes pix)[3 * k]? = some c.g ∧ (frameBytes pix)[3 * k + 1]? = some c.r ∧
      (frameBytes pix)[3 * k + 2]? = some c.b := by
  induction pix generalizing k with
  | nil => cases h
  | cons d ds ih =>
    cases k with
    | zero =>
      obtain rfl : d = c := Option.some.inj h
      exact ⟨rfl, rfl, rfl⟩
    | succ k => exact ih h

/-- Settles O41: the flush emits `frameBytes` of the buffer. -/
theorem pixFlushEmitsTheBuffer : Obligations.PixFlushEmitsTheBuffer := by
  intro s hf hactive hpix
  refine ⟨frameBytes s.pix, exec_pixFlush hf hactive hpix, ?_, fun k c => frameBytes_getElem?⟩
  rw [frameBytes_length, hpix]

/-- Settles O44: the flush finds the buffer that the clear has left, all BLACK. -/
theorem clearThenFlushIsDark : Obligations.ClearThenFlushIsDark := by
  intro s hf hactive hpix
  have hcleared : PixelsPresent ((clearAll s).respond .ok 0) := List.length_replicate
  refine ⟨_, _, pixClearCompletes s hf hactive hpix, exec_pixFlush hf hactive hcleared, ?_⟩
  exact congrArg (fun bytes => s.out ++ [.frame bytes]) (frameBytes_replicate_black s.cfg.npix)

/-- Painting a table a second time changes no pixel. -/
theorem paint_paint (pix : List Colour) (table : List PatternEntry) :
    paint (paint pix table) table = paint pix table := by
  refine List.ext_getElem? fun k => ?_
  rcases Nat.lt_or_ge k pix.length with hk | hk
  · rw [paint_getElem? (paint pix table) table (by rwa [paint_length]), paint_getElem? pix table hk]
    cases (table.filter fun e => decide (e.index = k)).getLast? <;> rfl
  · rw [List.getElem?_eq_none (by simpa using hk), List.getElem?_eq_none (by simpa using hk)]

/-- Settles O43: the second render paints what is painted already. -/
theorem renderIsIdempotent : Obligations.RenderIsIdempotent := by
  intro s table
  refine ⟨frameBytes (paint s.pix table), ?_, rfl, ?_⟩
  · simp only [render_eq, paint_paint]
  · simp only [render_eq, paint_paint, List.append_assoc, List.singleton_append]

/-! ## What the commands leave alone -/

/-- Settles O52: an ignored command, NOP and RDREG do nothing but respond, and neither faults. -/
theorem controlCommandsWriteNothing : Obligations.ControlCommandsWriteNothing := by
  intro s t i hop h
  obtain ⟨-, -, rfl⟩ | ⟨-, f, info, hfault, -⟩ | ⟨-, -, hp⟩ := exec_cases h
  · rfl
  · cases i with
    | nop => simp [faultOf_nop] at hfault
    | rdreg addr => simp [faultOf_rdreg] at hfault
    | _ => simp [Instr.op] at hop
  · cases i with
    | nop => cases hp; rfl
    | rdreg addr =>
      obtain ⟨r, -, rfl⟩ := hp.rdreg_responds
      rfl
    | _ => simp [Instr.op] at hop

/-- Settles O54: an ignored or faulted PUSH writes responses and fault registers; a performed one is `pushSample`, which
sets one slot. -/
theorem pushFrame : Obligations.PushFrame := by
  intro s t err raw h
  obtain ⟨-, -, rfl⟩ | ⟨-, f, info, -, rfl⟩ | ⟨-, -, -, rfl⟩ := exec_cases h
  · exact ⟨rfl, fun _ _ => rfl⟩
  · exact ⟨rfl, fun _ _ => rfl⟩
  · exact ⟨rfl, fun k hk => List.getElem?_set_ne hk.symm⟩

/-- Settles O55: an ignored or faulted command writes responses and fault registers; a performed one is `setPixel`,
`clearAll` or `flush`. -/
theorem pixelFrame : Obligations.PixelFrame := by
  intro s t i hop h
  obtain ⟨-, -, rfl⟩ | ⟨-, f, info, -, rfl⟩ | ⟨-, -, hp⟩ := exec_cases h
  · exact ⟨rfl, fun _ => ⟨rfl, rfl⟩, fun _ _ _ _ => rfl, fun _ => rfl⟩
  · exact ⟨rfl, fun _ => ⟨rfl, rfl⟩, fun _ _ _ _ => rfl, fun _ => rfl⟩
  · cases i with
    | pixSet index r g b =>
      obtain ⟨-, rfl⟩ := hp
      refine ⟨rfl, fun _ => ⟨rfl, rfl⟩, fun j hj k hk => ?_, nofun⟩
      cases hj
      exact List.getElem?_set_ne hk.symm
    | pixClear => obtain ⟨-, rfl⟩ := hp; exact ⟨rfl, fun _ => ⟨rfl, rfl⟩, nofun, nofun⟩
    | pixFlush => obtain ⟨-, rfl⟩ := hp; exact ⟨rfl, fun hne => absurd rfl hne, nofun, fun _ => rfl⟩
    | _ => simp [Instr.op] at hop

/-- Settles O56: an ignored or faulted command writes responses and fault registers; a performed one is a tick, which
leaves the smoother and the calibration alone, for STEP after the one slot of `pushSample`. -/
theorem detectionFrame : Obligations.DetectionFrame := by
  intro s t i hop h
  obtain ⟨-, -, rfl⟩ | ⟨-, f, info, -, rfl⟩ | ⟨-, -, hp⟩ := exec_cases h
  · exact ⟨rfl, fun _ => ⟨rfl, rfl, rfl⟩, fun _ _ => rfl⟩
  · exact ⟨rfl, fun _ => ⟨rfl, rfl, rfl⟩, fun _ _ => rfl⟩
  · cases i with
    | tick now =>
      obtain ⟨-, rfl⟩ := hp
      rw [tickState_frame]
      exact ⟨rfl, fun _ => ⟨rfl, rfl, rfl⟩, fun _ _ => rfl⟩
    | step err raw now =>
      obtain ⟨-, -, rfl⟩ := hp
      rw [tickState_frame]
      exact ⟨rfl, nofun, fun k hk => List.getElem?_set_ne hk.symm⟩
    | _ => simp [Instr.op] at hop

end Sys2Proof.Machine
end

section
namespace Sys2Proof.Machine

/-! ## The parts of the invariant read only their own fields (10_state.md R52) -/

variable {s t : State}

theorem SmootherOk.of_eq (h : SmootherOk s) (hcfg : t.cfg = s.cfg := by rfl) (hring : t.ring = s.ring := by rfl)
    (hsmoothed : t.smoothed = s.smoothed := by rfl) : SmootherOk t := by
  obtain ⟨_, _⟩ := h
  constructor <;> simp only [hcfg, hring, hsmoothed] <;> assumption

theorem CalibrationOk.of_eq (h : CalibrationOk s) (hcfg : t.cfg = s.cfg := by rfl)
    (hoffset : t.offset = s.offset := by rfl) (hdone : t.calDone = s.calDone := by rfl)
    (hactive : t.calActive = s.calActive := by rfl) (hacc : t.calAcc = s.calAcc := by rfl)
    (hremain : t.calRemain = s.calRemain := by rfl) (hcount : t.calCount = s.calCount := by rfl) :
    CalibrationOk t := by
  obtain ⟨_, _, _, _, _, _, _⟩ := h
  constructor <;> simp only [hcfg, hoffset, hdone, hactive, hacc, hremain, hcount] <;> assumption

theorem DetectionOk.of_eq (h : DetectionOk s) (hcfg : t.cfg = s.cfg := by rfl)
    (hstate : t.detState = s.detState := by rfl) (hduty : t.duty = s.duty := by rfl)
    (hpending : t.debPending = s.debPending := by rfl) (hstatus : t.statusLed = s.statusLed := by rfl)
    (hind : t.indLed = s.indLed := by rfl) : DetectionOk t := by
  obtain ⟨_, _, _, _, _, _⟩ := h
  constructor <;> simp only [hcfg, hstate, hduty, hpending, hstatus, hind] <;> assumption

theorem FaultOk.of_eq (h : FaultOk s) (hfaulted : t.faulted = s.faulted := by rfl)
    (hcode : t.faultCode = s.faultCode := by rfl) (hop : t.faultOp = s.faultOp := by rfl)
    (hinfo : t.faultInfo = s.faultInfo := by rfl) : FaultOk t := by
  obtain ⟨_, _⟩ := h
  constructor <;> simp only [hfaulted, hcode, hop, hinfo] <;> assumption

theorem TraceOk.of_eq (h : TraceOk s) (hcfg : t.cfg = s.cfg := by rfl) (hout : t.out = s.out := by rfl)
    (hstatus : t.statusLed = s.statusLed := by rfl) (hind : t.indLed = s.indLed := by rfl)
    (hduty : t.duty = s.duty := by rfl) (hframes : t.frames = s.frames := by rfl) : TraceOk t := by
  obtain ⟨_, _, _, _, _, _, _⟩ := h
  constructor <;> simp only [hcfg, hout, hstatus, hind, hduty, hframes] <;> assumption

/-! ## What keeps the invariant: responses, inputs, faults, the reset -/

theorem Inv.respond (h : Inv s) (rc : RespCode) (data : Word) : Inv (s.respond rc data) :=
  ⟨h.stores.respond rc data, h.smoother.of_eq, h.calibration.of_eq, h.detection.of_eq, h.fault.of_eq, h.trace.of_eq⟩

theorem Inv.withInputs (h : Inv s) (rest : List HostInput) : Inv { s with inputs := rest } :=
  ⟨h.stores.of_eq rfl rfl rfl rfl, h.smoother.of_eq, h.calibration.of_eq, h.detection.of_eq, h.fault.of_eq,
    h.trace.of_eq⟩

theorem FaultKind.code_ne_zero (f : FaultKind) : f.code ≠ 0 := by
  cases f <;> decide

theorem FaultOk.raiseFault (s : State) (f : FaultKind) (op : BitVec 4) (info : Half) :
    FaultOk (raiseFault s f op info) :=
  ⟨iff_of_true rfl f.code_ne_zero, nofun⟩

theorem Inv.raiseFault (h : Inv s) (f : FaultKind) (op : BitVec 4) (info : Half) : Inv (raiseFault s f op info) :=
  ⟨h.stores.raiseFault f op info, h.smoother.of_eq, h.calibration.of_eq, h.detection.of_eq,
    FaultOk.raiseFault s f op info, h.trace.of_eq⟩

theorem Inv.issueIllegal (h : Inv s) (why : IllegalWord) (op : BitVec 4) : Inv (issueIllegal why op s) := by
  obtain hf | hf := Bool.eq_false_or_eq_true s.faulted
  · exact issueIllegal_faulted why op hf ▸ h.respond .ignored 0
  · exact issueIllegal_raises why op hf ▸ h.raiseFault .illegalCommand op why.info

theorem SmootherOk.reset (c : Cfg) : SmootherOk (State.resetWith c) where
  ring_lt v hv := by
    rw [(List.mem_replicate.1 hv).2]
    exact Nat.two_pow_pos _
  smoothed_eq := by
    change 0 = ringSum (List.replicate c.w 0) / c.w
    rw [ringSum_replicate_zero, Nat.zero_div]

theorem CalibrationOk.reset (c : Cfg) : CalibrationOk (State.resetWith c) where
  not_both := nofun
  remain_le := le_rfl
  acc_le := Nat.zero_le _
  active_remain := nofun
  done_remain := nofun
  done_offset := nofun
  cold_offset _ := rfl

theorem DetectionOk.reset (c : Cfg) : DetectionOk (State.resetWith c) where
  active_duty := nofun
  idle_duty _ := rfl
  active_gate := nofun
  active_led := nofun
  pending_led := nofun
  ind_led := rfl

theorem FaultOk.reset (c : Cfg) : FaultOk (State.resetWith c) where
  code_iff := iff_of_false nofun fun h => h rfl
  clear _ := ⟨rfl, rfl⟩

theorem TraceOk.reset (c : Cfg) : TraceOk (State.resetWith c) where
  status_eq := rfl
  ind_eq := rfl
  duty_eq := rfl
  frames_eq := rfl
  frame_length := nofun
  never_wrong := nofun
  after_edge := nofun

theorem Inv.reset (c : Cfg) : Inv (State.resetWith c) :=
  ⟨.reset c, .reset c, .reset c, .reset c, .reset c, .reset c⟩

/-- Settles O57: each part of the invariant holds of the reset values. -/
theorem resetMeetsInvariants : Obligations.ResetMeetsInvariants := ⟨Inv.reset, Inv.reset Config.reference⟩

/-! ## The Sample Smoother -/

/-- The mean of samples is a sample, so SMOOTHED holds it without loss. -/
theorem ring_mean_toNat {c : Cfg} {ring : List Half} (hlength : ring.length = c.w) :
    (BitVec.ofNat 16 (ringSum ring / c.w)).toNat = ringSum ring / c.w := by
  have hsum : ringSum ring ≤ c.w * 65535 := hlength ▸ ringSum_le ring 65535 fun v _ => Nat.le_sub_one_of_lt v.isLt
  exact Nat.mod_eq_of_lt (Nat.lt_succ_of_le (Nat.div_le_of_le_mul hsum))

theorem Inv.pushSample (h : Inv s) {raw : Half} (hraw : raw.toNat < 2 ^ s.cfg.sw) : Inv (pushSample s raw) where
  stores := h.stores.pushSample raw
  smoother :=
    { ring_lt := fun v hv => (List.mem_or_eq_of_mem_set hv).elim (h.smoother.ring_lt v) fun heq => heq ▸ hraw
      smoothed_eq := ring_mean_toNat (h.stores.pushSample raw).ring_length }
  calibration := h.calibration.of_eq
  detection := h.detection.of_eq
  fault := h.fault.of_eq
  trace := h.trace.of_eq

/-- A command that passes every check carries a sample in range. -/
theorem sample_lt_of_faultOf_none {i : Instr} {raw : Half} (h : faultOf i s = none) (hraw : sampleOf i = some raw) :
    raw.toNat < 2 ^ s.cfg.sw := by
  by_contra hge
  simp [faultOf, hraw, Nat.not_lt.1 hge] at h

/-! ## Calibration -/

theorem Inv.startCalibration (h : Inv s) {count : Half} (hdone : s.calDone = false) (hcount : count ≠ 0) :
    Inv (startCalibration s count) where
  stores := h.stores.startCalibration count
  smoother := h.smoother.of_eq
  calibration :=
    { not_both := by simp [hdone]
      remain_le := le_rfl
      acc_le := Nat.zero_le _
      active_remain := fun _ => Nat.one_le_iff_ne_zero.2 fun hzero => hcount (BitVec.eq_of_toNat_eq hzero)
      done_remain := by simp [hdone]
      done_offset := by simp [hdone]
      cold_offset := h.calibration.cold_offset }
  detection := h.detection.of_eq
  fault := h.fault.of_eq
  trace := h.trace.of_eq

/-- One sample taken: CAL_REMAIN is counted down without wrapping, and CAL_ACC stays within the largest value per sample
taken. -/
theorem CalibrationOk.taken (h : CalibrationOk s) {raw : Half} (hactive : s.calActive = true)
    (hraw : raw.toNat < 2 ^ s.cfg.sw) :
    (s.calRemain - 1).toNat = s.calRemain.toNat - 1 ∧
    (s.calAcc + raw.setWidth 32).toNat ≤ (s.calCount.toNat - (s.calRemain.toNat - 1)) * (2 ^ s.cfg.sw - 1) := by
  have hremain := h.active_remain hactive
  have hle := h.remain_le
  refine ⟨BitVec.toNat_sub_of_le hremain, ?_⟩
  rw [h.calAcc_add_toNat hremain hraw, show s.calCount.toNat - (s.calRemain.toNat - 1) =
    s.calCount.toNat - s.calRemain.toNat + 1 by omega]
  exact h.acc_add_le hraw

theorem CalibrationOk.takeSample (h : CalibrationOk s) {raw : Half} (hactive : s.calActive = true)
    (hraw : raw.toNat < 2 ^ s.cfg.sw) : CalibrationOk (takeCalibrationSample s raw) := by
  have hremain := h.active_remain hactive
  have hle := h.remain_le
  have hcold : s.calDone = false := Bool.eq_false_iff.2 fun hdone => h.not_both ⟨hactive, hdone⟩
  obtain ⟨htaken, hacc⟩ := h.taken hactive hraw
  by_cases hlast : s.calRemain - 1 = 0
  · have hone : s.calRemain = 1 := sub_eq_zero.1 hlast
    have hmean : (s.calAcc + raw.setWidth 32).toNat / s.calCount.toNat < 2 ^ 16 := by
      rw [h.calAcc_add_toNat hremain hraw]
      exact (h.mean_lt hone hraw).trans_le (Cfg.two_pow_sw_le s.cfg)
    rw [takeCalibrationSample_last hlast]
    exact
      { not_both := nofun
        remain_le := htaken ▸ (Nat.sub_le _ _).trans hle
        acc_le := htaken ▸ hacc
        active_remain := nofun
        done_remain := fun _ => ⟨hlast, hremain.trans hle⟩
        done_offset := fun _ => Nat.mod_eq_of_lt hmean
        cold_offset := nofun }
  · rw [takeCalibrationSample_more hlast]
    exact
      { not_both := by simp [hcold]
        remain_le := htaken ▸ (Nat.sub_le _ _).trans hle
        acc_le := htaken ▸ hacc
        active_remain := fun _ => Nat.one_le_iff_ne_zero.2 fun hzero => hlast (BitVec.eq_of_toNat_eq hzero)
        done_remain := by simp [hcold]
        done_offset := by simp [hcold]
        cold_offset := h.cold_offset }

theorem Inv.takeCalibrationSample (h : Inv s) {raw : Half} (hactive : s.calActive = true)
    (hraw : raw.toNat < 2 ^ s.cfg.sw) : Inv (takeCalibrationSample s raw) := by
  have hcal := h.calibration.takeSample hactive hraw
  have hstores := h.stores.takeCalibrationSample raw
  rw [takeCalibrationSample_frame] at hcal hstores ⊢
  exact ⟨hstores, h.smoother.of_eq, hcal, h.detection.of_eq, h.fault.of_eq, h.trace.of_eq⟩

end Sys2Proof.Machine
end

section
namespace Sys2Proof.Machine

variable {s t : State}

/-! ## Frames and renders (42_pixel.md R164 to R166) -/

theorem frameSizeOk_frameBytes {n : Nat} {pix : List Colour} (h : pix.length = n) :
    frameSizeOk n (.frame (frameBytes pix)) = true := by
  rw [frameSizeOk, frameBytes_length, h, decide_eq_true rfl]

theorem Inv.setPixel (h : Inv s) (index : Nat) (c : Colour) : Inv (setPixel s index c) :=
  ⟨h.stores.setPixel index c, h.smoother.of_eq, h.calibration.of_eq, h.detection.of_eq, h.fault.of_eq, h.trace.of_eq⟩

theorem Inv.clearAll (h : Inv s) : Inv (clearAll s) :=
  ⟨h.stores.clearAll, h.smoother.of_eq, h.calibration.of_eq, h.detection.of_eq, h.fault.of_eq, h.trace.of_eq⟩

theorem Inv.setEntries (h : Inv s) (table : List PatternEntry) : Inv (setEntries s table) :=
  ⟨h.stores.of_eq rfl rfl rfl (by simp), h.smoother.of_eq, h.calibration.of_eq, h.detection.of_eq, h.fault.of_eq,
    h.trace.of_eq⟩

theorem TraceOk.flush (h : TraceOk s) (hpix : PixelsPresent s) : TraceOk (flush s) := by
  refine h.append (ev := [.frame (frameBytes s.pix)]) rfl rfl rfl rfl rfl rfl ?_ ?_ (.inl ⟨rfl, rfl, ?_⟩)
  · exact List.forall_mem_singleton.2 (frameSizeOk_frameBytes hpix)
  · exact List.forall_mem_singleton.2 rfl
  · exact List.forall_mem_singleton.2 rfl

theorem Inv.flush (h : Inv s) : Inv (flush s) :=
  ⟨h.stores.flush, h.smoother.of_eq, h.calibration.of_eq, h.detection.of_eq, h.fault.of_eq,
    h.trace.flush h.stores.pix_length⟩

theorem Inv.render (h : Inv s) (table : List PatternEntry) : Inv (render s table) := (h.setEntries table).flush

/-! ## The edges and the tick (41_detection.md R133 to R138) -/

/-- The events of the Idle → Active edge (R136). -/
def activationEvents (s : State) : List OutEvent :=
  [.statusLed true, .indLed false, .frame (frameBytes (paint s.pix s.cfg.alarm)),
    .duty (BitVec.ofNat 32 s.cfg.toneLevel)]

/-- The events of the Active → Idle edge (R137). -/
def deactivationEvents (c : Cfg) : List OutEvent :=
  [.indLed false, .statusLed true, .frame (frameBytes (List.replicate c.npix Colour.black)), .duty 0]

@[simp] theorem activationEvents_length (s : State) : (activationEvents s).length = 4 := rfl

@[simp] theorem deactivationEvents_length (c : Cfg) : (deactivationEvents c).length = 4 := rfl

theorem activate_eq_events (s : State) (now : Word) :
    activate s now =
      { s with
        detState := .active
        actTime := now
        statusLed := true
        indLed := false
        pix := paint s.pix s.cfg.alarm
        frames := s.frames + 1
        duty := BitVec.ofNat 32 s.cfg.toneLevel
        out := s.out ++ activationEvents s } := by
  simp [activate_eq, activationEvents]

theorem deactivate_eq_events (s : State) (now : Word) :
    deactivate s now =
      { s with
        detState := .idle
        deactTime := now
        debPending := true
        indLed := false
        statusLed := true
        pix := List.replicate s.cfg.npix Colour.black
        frames := s.frames + 1
        duty := 0
        out := s.out ++ deactivationEvents s.cfg } := by
  simp [deactivate_eq, deactivationEvents]

/-- An edge leaves the ports as its events write them, STATUS_LED at 1 and IND_LED at 0. -/
theorem TraceOk.activate (h : TraceOk s) (hpix : PixelsPresent s) (now : Word) : TraceOk (activate s now) := by
  have hframe : frameSizeOk s.cfg.npix (.frame (frameBytes (paint s.pix s.cfg.alarm))) = true :=
    frameSizeOk_frameBytes (by rw [paint_length, hpix])
  rw [activate_eq_events]
  refine h.append (ev := activationEvents s) rfl rfl rfl rfl rfl rfl ?_ ?_ (.inr ⟨rfl, rfl⟩)
  all_goals simp only [activationEvents, List.forall_mem_cons]
  · exact ⟨rfl, rfl, hframe, rfl, nofun⟩
  · exact ⟨rfl, rfl, rfl, rfl, nofun⟩

theorem TraceOk.deactivate (h : TraceOk s) (now : Word) : TraceOk (deactivate s now) := by
  have hframe : frameSizeOk s.cfg.npix (.frame (frameBytes (List.replicate s.cfg.npix Colour.black))) = true :=
    frameSizeOk_frameBytes List.length_replicate
  rw [deactivate_eq_events]
  refine h.append (ev := deactivationEvents s.cfg) rfl rfl rfl rfl rfl rfl ?_ ?_ (.inr ⟨rfl, rfl⟩)
  all_goals simp only [deactivationEvents, List.forall_mem_cons]
  · exact ⟨rfl, rfl, hframe, rfl, nofun⟩
  · exact ⟨rfl, rfl, rfl, rfl, nofun⟩

/-- The gate must have cleared DEB_PENDING: an Active block has none. -/
theorem DetectionOk.activate (hpending : s.debPending = false) (now : Word) : DetectionOk (activate s now) := by
  rw [activate_eq]
  exact
    { active_duty := fun _ => rfl
      idle_duty := nofun
      active_gate := fun _ => hpending
      active_led := fun _ => rfl
      pending_led := fun _ => rfl
      ind_led := rfl }

theorem DetectionOk.deactivate (s : State) (now : Word) : DetectionOk (deactivate s now) := by
  rw [deactivate_eq]
  exact
    { active_duty := nofun
      idle_duty := fun _ => rfl
      active_gate := nofun
      active_led := nofun
      pending_led := fun _ => rfl
      ind_led := rfl }

theorem Inv.activate (h : Inv s) (hpending : s.debPending = false) (now : Word) : Inv (activate s now) := by
  have hstores := h.stores.activate now
  have hdetection := DetectionOk.activate hpending now
  have htrace := h.trace.activate h.stores.pix_length now
  rw [activate_eq] at *
  exact ⟨hstores, h.smoother.of_eq, h.calibration.of_eq, hdetection, h.fault.of_eq, htrace⟩

theorem Inv.deactivate (h : Inv s) (now : Word) : Inv (deactivate s now) := by
  have hstores := h.stores.deactivate now
  have hdetection := DetectionOk.deactivate s now
  have htrace := h.trace.deactivate now
  rw [deactivate_eq] at *
  exact ⟨hstores, h.smoother.of_eq, h.calibration.of_eq, hdetection, h.fault.of_eq, htrace⟩

theorem Inv.writeAmplitude (h : Inv s) : Inv (writeAmplitude s) :=
  ⟨h.stores.of_eq rfl rfl rfl rfl, h.smoother.of_eq, h.calibration.of_eq, h.detection.of_eq, h.fault.of_eq,
    h.trace.of_eq⟩

theorem DetectionOk.clearPending (h : DetectionOk s) : DetectionOk { s with debPending := false } where
  active_duty := h.active_duty
  idle_duty := h.idle_duty
  active_gate _ := rfl
  active_led := h.active_led
  pending_led := nofun
  ind_led := h.ind_led

theorem Inv.settleGate (h : Inv s) (now : Word) : Inv (settleGate s now) := by
  cases hgate : gateOpen s now
  · rwa [settleGate_closed hgate]
  · rw [settleGate_open hgate]
    exact ⟨h.stores.of_eq rfl rfl rfl rfl, h.smoother.of_eq, h.calibration.of_eq, h.detection.clearPending,
      h.fault.of_eq, h.trace.of_eq⟩

theorem gateOpen_eq_false_iff {now : Word} :
    gateOpen s now = false ↔ s.debPending = true ∧ (now - s.deactTime).toNat < s.cfg.debounce := by
  simp [gateOpen]

/-- After step 2 of a tick DEB_PENDING says whether the gate is closed (R132). -/
theorem settleGate_eq (s : State) (now : Word) : settleGate s now = { s with debPending := !gateOpen s now } := by
  cases hgate : gateOpen s now
  · rw [settleGate_closed hgate, Bool.not_false, ← (gateOpen_eq_false_iff.1 hgate).1]
  · rw [settleGate_open hgate, Bool.not_true]

theorem debPending_of_gateOpen {now : Word} (hgate : gateOpen s now = true) :
    (settleGate (writeAmplitude s) now).debPending = false := by
  rw [settleGate_open ((gateOpen_writeAmplitude s now).trans hgate)]

theorem Inv.tickState (h : Inv s) (now : Word) : Inv (tickState s now) := by
  have hu := h.writeAmplitude.settleGate now
  obtain ⟨-, -, ht⟩ | ⟨-, -, -, ht⟩ | ⟨-, hgate, -, -, ht⟩ | ⟨-, hgate, -, -, ht⟩ | ⟨-, -, ht⟩ | ⟨-, -, ht⟩ :=
    tickState_cases s now
  · exact ht ▸ hu
  · exact ht ▸ hu.render s.cfg.idle
  · exact ht ▸ hu.activate (debPending_of_gateOpen hgate) now
  · exact ht ▸ (hu.activate (debPending_of_gateOpen hgate) now).deactivate now
  · exact ht ▸ hu
  · exact ht ▸ hu.deactivate now

/-! ## Every step keeps the invariant -/

theorem Performs.inv {i : Instr} (hp : Performs i s t) (h : Inv s) (hfault : faultOf i s = none) : Inv t := by
  cases i with
  | nop => cases hp; exact h.respond ..
  | calStart count =>
    cases hp
    rw [faultOf_calStart] at hfault
    split_ifs at hfault with hactive hdone hcount
    exact (h.startCalibration (Bool.eq_false_iff.2 hdone) hcount).respond ..
  | calSample err raw =>
    cases hp
    rw [faultOf_calSample] at hfault
    split_ifs at hfault with hraw hidle
    exact (h.takeCalibrationSample (Bool.not_eq_false _ ▸ hidle) (Nat.not_le.1 hraw)).respond ..
  | push err raw =>
    obtain ⟨-, rfl⟩ := hp
    exact (h.pushSample (sample_lt_of_faultOf_none hfault rfl)).respond ..
  | tick now => obtain ⟨-, rfl⟩ := hp; exact (h.tickState now).respond ..
  | step err raw now =>
    obtain ⟨-, -, rfl⟩ := hp
    exact ((h.pushSample (sample_lt_of_faultOf_none hfault rfl)).tickState now).respond ..
  | pixSet index r g b => obtain ⟨-, rfl⟩ := hp; exact (h.setPixel ..).respond ..
  | pixClear => obtain ⟨-, rfl⟩ := hp; exact h.clearAll.respond ..
  | pixFlush => obtain ⟨-, rfl⟩ := hp; exact h.flush.respond ..
  | rdreg addr =>
    obtain ⟨r, -, rfl⟩ := hp.rdreg_responds
    exact h.respond ..

theorem Inv.exec (h : Inv s) {i : Instr} (he : exec i s = .next t) : Inv t := by
  obtain ⟨-, -, rfl⟩ | ⟨-, f, info, -, rfl⟩ | ⟨-, hfault, hp⟩ := exec_cases he
  · exact h.respond ..
  · exact h.raiseFault ..
  · exact hp.inv h hfault

/-- Settles O58: a step waits, resets, executes a command, or takes an illegal word, and each keeps the invariant. -/
theorem stepKeepsInvariants : Obligations.StepKeepsInvariants := by
  intro s t h hstep
  obtain ⟨-, rfl⟩ | ⟨rest, -, rfl⟩ | ⟨cw, rest, i, -, -, he⟩ | ⟨cw, rest, why, -, -, rfl⟩ := step_cases hstep
  · exact h
  · exact (Inv.reset s.cfg).withInputs rest
  · exact (h.withInputs rest).exec he
  · exact (h.withInputs rest).issueIllegal why (fieldOp cw)

/-! ## Every step keeps the stores, so none is without an answer (70_reset_and_hazards.md section 5) -/

theorem Performs.storesOk {i : Instr} (hp : Performs i s t) (h : StoresOk s) : StoresOk t := by
  cases i with
  | nop => cases hp; exact h.respond ..
  | calStart count => cases hp; exact (h.startCalibration count).respond ..
  | calSample err raw => cases hp; exact (h.takeCalibrationSample raw).respond ..
  | push err raw => obtain ⟨-, rfl⟩ := hp; exact (h.pushSample raw).respond ..
  | tick now => obtain ⟨-, rfl⟩ := hp; exact (h.tickState now).respond ..
  | step err raw now => obtain ⟨-, -, rfl⟩ := hp; exact ((h.pushSample raw).tickState now).respond ..
  | pixSet index r g b => obtain ⟨-, rfl⟩ := hp; exact (h.setPixel ..).respond ..
  | pixClear => obtain ⟨-, rfl⟩ := hp; exact h.clearAll.respond ..
  | pixFlush => obtain ⟨-, rfl⟩ := hp; exact h.flush.respond ..
  | rdreg addr =>
    obtain ⟨r, -, rfl⟩ := hp.rdreg_responds
    exact h.respond ..

theorem StoresOk.step (h : StoresOk s) (hstep : step s = .next t) : StoresOk t := by
  obtain rfl | ⟨rest, -, rfl⟩ | ⟨cw, rest, hin⟩ := step_input_cases hstep
  · exact h
  · exact (StoresOk.reset s.cfg).of_eq rfl rfl rfl rfl
  · have htaken : StoresOk { s with inputs := rest } := h.of_eq rfl rfl rfl rfl
    obtain ⟨-, rfl⟩ | ⟨-, f, op, info, rfl⟩ | ⟨i, -, -, -, hp⟩ := step_command_cases hin hstep
    · exact htaken.respond ..
    · exact htaken.raiseFault ..
    · exact hp.storesOk htaken

/-- Settles O59: where the stores are there every input is answered, and the answer keeps them. -/
theorem blockNeverHalts : Obligations.BlockNeverHalts := by
  intro s h
  obtain ⟨t, hstep⟩ := h.step_answers
  exact ⟨t, hstep, h.step hstep⟩

/-! ## What a step adds to OUT (10_state.md R38) -/

theorem settleGate_writeAmplitude_out (s : State) (now : Word) :
    (settleGate (writeAmplitude s) now).out = s.out := by
  rw [settleGate_eq]
  rfl

/-- A tick adds nothing, one frame, the four events of an edge, or those of both edges. -/
theorem tickState_out (s : State) (now : Word) : ∃ ev, (tickState s now).out = s.out ++ ev ∧ ev.length ≤ 8 := by
  have hu := settleGate_writeAmplitude_out s now
  obtain ⟨-, -, ht⟩ | ⟨-, -, -, ht⟩ | ⟨-, -, -, -, ht⟩ | ⟨-, -, -, -, ht⟩ | ⟨-, -, ht⟩ | ⟨-, -, ht⟩ :=
    tickState_cases s now
  · exact ⟨[], by rw [ht, hu, List.append_nil], by decide⟩
  · exact ⟨[_], by rw [ht, render_eq, hu], by simp⟩
  · exact ⟨activationEvents _, by rw [ht, activate_eq_events, hu], by simp⟩
  · exact ⟨_, by rw [ht, deactivate_eq_events, activate_eq_events, hu, List.append_assoc], by simp⟩
  · exact ⟨[], by rw [ht, hu, List.append_nil], by decide⟩
  · exact ⟨deactivationEvents _, by rw [ht, deactivate_eq_events, hu], by simp⟩

/-- From `s` to `t` OUT has grown by at most eight events, and by none unless the command is one of the three that
emit. -/
def Emits (i : Instr) (s t : State) : Prop :=
  ∃ ev, t.out = s.out ++ ev ∧ ev.length ≤ 8 ∧ (ev ≠ [] → i.op = .tick ∨ i.op = .step ∨ i.op = .pixFlush)

theorem Emits.of_out_eq {i : Instr} (h : t.out = s.out) : Emits i s t :=
  ⟨[], by rw [h, List.append_nil], Nat.zero_le _, fun hne => absurd rfl hne⟩

theorem Performs.emits {i : Instr} (hp : Performs i s t) : Emits i s t := by
  cases i with
  | nop => cases hp; exact .of_out_eq rfl
  | calStart count => cases hp; exact .of_out_eq rfl
  | calSample err raw =>
    cases hp
    refine .of_out_eq ?_
    rw [takeCalibrationSample_frame]
    rfl
  | push err raw => obtain ⟨-, rfl⟩ := hp; exact .of_out_eq rfl
  | tick now =>
    obtain ⟨-, rfl⟩ := hp
    obtain ⟨ev, hout, hlength⟩ := tickState_out s now
    exact ⟨ev, hout, hlength, fun _ => .inl rfl⟩
  | step err raw now =>
    obtain ⟨-, -, rfl⟩ := hp
    obtain ⟨ev, hout, hlength⟩ := tickState_out (pushSample s raw) now
    exact ⟨ev, hout, hlength, fun _ => .inr (.inl rfl)⟩
  | pixSet index r g b => obtain ⟨-, rfl⟩ := hp; exact .of_out_eq rfl
  | pixClear => obtain ⟨-, rfl⟩ := hp; exact .of_out_eq rfl
  | pixFlush => obtain ⟨-, rfl⟩ := hp; exact ⟨[_], rfl, by simp, fun _ => .inr (.inr rfl)⟩
  | rdreg addr =>
    obtain ⟨r, -, rfl⟩ := hp.rdreg_responds
    exact .of_out_eq rfl

/-- The OP field of a word tells its command. -/
theorem opcode_of_decode {sw : Nat} {cw : CmdWord} {i : Instr} {op : Op} (hd : decode sw cw = .cmd i)
    (hop : i.op = op) : (cw >>> 60).toNat = op.code.toNat := by
  rw [← fieldOp_toNat, ← op_code_of_decode hd, hop]

/-- Settles O60: only a command that is performed emits, and `Performs.emits` bounds what it emits. -/
theorem outputTraceOnlyGrows : Obligations.OutputTraceOnlyGrows := by
  intro s t hstep hreset
  obtain rfl | ⟨rest, hin, -⟩ | ⟨cw, rest, hin⟩ := step_input_cases hstep
  · exact ⟨[], (List.append_nil _).symm, Nat.zero_le _, fun hne => absurd rfl hne⟩
  · exact absurd hin (hreset rest)
  · obtain ⟨-, rfl⟩ | ⟨-, f, op, info, rfl⟩ | ⟨i, hd, -, -, hp⟩ := step_command_cases hin hstep
    · exact ⟨[], (List.append_nil _).symm, Nat.zero_le _, fun hne => absurd rfl hne⟩
    · exact ⟨[], (List.append_nil _).symm, Nat.zero_le _, fun hne => absurd rfl hne⟩
    · obtain ⟨ev, hout, hlength, hop⟩ := hp.emits
      refine ⟨ev, hout, hlength, fun hne => ⟨cw, rest, hin, ?_⟩⟩
      obtain hop | hop | hop := hop hne
      · exact .inl (opcode_of_decode hd hop)
      · exact .inr (.inl (opcode_of_decode hd hop))
      · exact .inr (.inr (opcode_of_decode hd hop))

end Sys2Proof.Machine
end

section
namespace Sys2Proof.Machine

/-! ## The running average (40_smoother.md section 2) -/

/-- Settles O22: the push keeps the invariant, so SMOOTHED is the mean of the ring without loss, and a sample. -/
theorem pushAverageIsExact : Obligations.PushAverageIsExact := by
  intro s raw hinv hf hactive hraw
  obtain ⟨hlength, hcursor, -⟩ := hinv.stores
  have hpushed := hinv.pushSample hraw
  have hsum : ringSum (pushSample s raw).ring ≤ s.cfg.w * 65535 :=
    hpushed.stores.ring_length ▸ ringSum_le _ 65535 fun v _ => Nat.le_sub_one_of_lt v.isLt
  have hw : s.cfg.w ≤ 256 := s.cfg.legal.1.2
  refine ⟨_, exec_push hf hactive hraw ⟨hlength, hcursor⟩, ?_, hpushed.smoother.smoothed_eq, ?_, ?_, ?_, rfl⟩
  · exact List.getElem?_set_self (hlength ▸ hcursor)
  · exact hpushed.smoothed_le.trans_lt (Nat.sub_one_lt (Nat.two_pow_pos _).ne')
  · exact hsum.trans_lt (by omega)
  · have hnext : (s.cursor.toNat + 1) % s.cfg.w < s.cfg.w := Nat.mod_lt _ (by omega)
    exact Nat.mod_eq_of_lt (hnext.trans_le hw)

/-! ## Runs of a stream of commands -/

theorem core_run_succ (M : Host.Core) {k : Nat} {s t : M.State} (h : M.step s = .next t) :
    M.run (k + 1) s = M.run k t := by
  simp only [Host.Core.run, h]

theorem run_succ {k : Nat} {s t : State} (h : step s = .next t) : run (k + 1) s = run k t :=
  core_run_succ Sys2Proof.core h

/-- The first command of a stream is executed, and the rest is still to come. -/
theorem step_stream {s : State} {i : Instr} {is : List Instr} (h : s.inputs = stream (i :: is))
    (hwf : i.wellFormed s.cfg.sw = true) : step s = exec i { s with inputs := stream is } :=
  step_of_command h (decodeOfEncodeIsSelf s.cfg.sw i hwf)

/-! ## The window (40_smoother.md section 2) -/

/-- The ring from its oldest slot on: CURSOR is where the next sample goes, over the oldest one. -/
def window (s : State) : List Half := s.ring.rotate s.cursor.toNat

theorem ringSum_replicate_zero_append (n : Nat) (l : List Half) :
    ringSum (List.replicate n 0 ++ l) = (l.map BitVec.toNat).sum := by
  simp [ringSum]

theorem window_reset (c : Cfg) : window (State.resetWith c) = List.replicate c.w 0 := List.rotate_zero _

/-- The ring and the window have the same sum. -/
theorem ringSum_window (s : State) : ringSum (window s) = ringSum s.ring :=
  ((List.rotate_perm s.ring s.cursor.toNat).map BitVec.toNat).sum_eq

/-- A push takes the oldest sample out of the window and puts its own behind the newest. -/
theorem window_pushSample {s : State} (h : RingPresent s) (raw : Half) :
    window (pushSample s raw) = (window s).tail ++ [raw] := by
  obtain ⟨hlength, hcursor⟩ := h
  have hlt : s.cursor.toNat < s.ring.length := hlength ▸ hcursor
  have hnext : (BitVec.ofNat 8 ((s.cursor.toNat + 1) % s.cfg.w)).toNat =
      (s.cursor.toNat + 1) % (s.ring.set s.cursor.toNat raw).length := by
    have hw : s.cfg.w ≤ 256 := s.cfg.legal.1.2
    rw [List.length_set, hlength]
    exact Nat.mod_eq_of_lt ((Nat.mod_lt _ (by omega)).trans_le hw)
  have htake : (s.ring.set s.cursor.toNat raw).take (s.cursor.toNat + 1) = s.ring.take s.cursor.toNat ++ [raw] := by
    rw [List.take_add_one, List.getElem?_set_self hlt, List.take_set_of_le le_rfl, Option.toList_some]
  rw [window, pushSample_cursor, pushSample_ring, hnext, List.rotate_mod,
    List.rotate_eq_drop_append_take (by rw [List.length_set]; exact hlt), htake,
    List.drop_set_of_lt (Nat.lt_succ_self _), window, List.rotate_eq_drop_append_take hlt.le,
    List.drop_eq_getElem_cons hlt, List.cons_append, List.tail_cons, List.append_assoc]

/-- Pushes shift their samples into the window, one slot each. -/
theorem run_pushes (vs : List Half) {s : State} (hinv : Inv s) (hf : s.faulted = false) (hactive : s.calActive = false)
    (hvs : ∀ v ∈ vs, v.toNat < 2 ^ s.cfg.sw) (hin : s.inputs = stream (vs.map (Instr.push false))) :
    ∃ t, run vs.length s = .next t ∧ Inv t ∧ t.cfg = s.cfg ∧ window t = (window s ++ vs).drop vs.length := by
  induction vs generalizing s with
  | nil => exact ⟨s, rfl, hinv, rfl, (List.append_nil _).symm⟩
  | cons v vs ih =>
    obtain ⟨hv, hvs⟩ := List.forall_mem_cons.1 hvs
    obtain ⟨hlength, hcursor, -⟩ := hinv.stores
    let u : State := { s with inputs := stream (vs.map (Instr.push false)) }
    have hu : Inv u := hinv.withInputs _
    let p : State := (pushSample u v).respond .ok ((pushSample u v).smoothed.setWidth 32)
    have hstep : step s = .next p :=
      (step_stream hin (decide_eq_true hv)).trans (exec_push hf hactive hv ⟨hlength, hcursor⟩)
    obtain ⟨t, hrun, ht, hcfg, hwindow⟩ := ih (s := p) ((hu.pushSample hv).respond ..) hf hactive hvs rfl
    have hpushed : window p = (window s).tail ++ [v] := window_pushSample (s := u) ⟨hlength, hcursor⟩ v
    have hne : window s ≠ [] := by
      rw [← List.length_pos_iff, window, List.length_rotate]
      omega
    refine ⟨t, (run_succ hstep).trans hrun, ht, hcfg, ?_⟩
    rw [hwindow, hpushed, List.append_assoc, List.singleton_append, List.length_cons, ← List.drop_tail,
      List.tail_append_of_ne_nil hne]

/-- Settles O23: the pushes shift all but the last W samples out of the window, and the slots not yet written add
nothing to its sum. -/
theorem smoothedIsMeanOfLastWindow : Obligations.SmoothedIsMeanOfLastWindow := by
  intro c vs _ hvs
  let s : State := { State.resetWith c with inputs := stream (vs.map (Instr.push false)) }
  have hs : Inv s := (Inv.reset c).withInputs _
  have hzero : window s = List.replicate c.w 0 := window_reset c
  obtain ⟨t, hrun, ht, hcfg, hwindow⟩ := run_pushes vs hs rfl rfl hvs rfl
  have hw : t.cfg.w = c.w := congrArg (fun c => c.w) hcfg
  refine ⟨t, hrun, ?_⟩
  rw [ht.smoother.smoothed_eq, ← ringSum_window, hwindow, hzero, List.drop_append, List.drop_replicate,
    List.length_replicate, ringSum_replicate_zero_append, hw]

/-! ## Calibration with a constant input (40_smoother.md section 1) -/

/-- After `m` samples `v`, fewer than CAL_COUNT, one more is added without overflow. -/
theorem calAcc_add_constant {s : State} {v : Half} {m : Nat} (hacc : s.calAcc.toNat = m * v.toNat)
    (hm : m < s.calCount.toNat) : (s.calAcc + v.setWidth 32).toNat = (m + 1) * v.toNat := by
  have hv := v.isLt
  have hcount := s.calCount.isLt
  have hbound : (m + 1) * v.toNat ≤ 65535 * 65535 := Nat.mul_le_mul (by omega) (by omega)
  rw [Nat.add_one_mul, ← hacc] at *
  rw [BitVec.toNat_add, BitVec.toNat_setWidth, Nat.mod_eq_of_lt (a := v.toNat) (by omega), Nat.mod_eq_of_lt (by omega)]

theorem lastMean_constant {s : State} {v : Half} {m : Nat} (hacc : s.calAcc.toNat = m * v.toNat)
    (hcount : s.calCount.toNat = m + 1) : lastMean s v = v := by
  rw [lastMean, calAcc_add_constant hacc (by omega), hcount, Nat.mul_div_cancel_left _ (Nat.succ_pos m),
    BitVec.ofNat_toNat, BitVec.setWidth_eq]

/-- Where calibration with the constant `v` ends: the mean is `v`, and the smoother is as before. -/
structure CalibratedTo (v : Half) (s t : State) : Prop where
  offset : t.offset = v
  done : t.calDone = true
  active : t.calActive = false
  remain : t.calRemain = 0
  acc : t.calAcc.toNat = s.calCount.toNat * v.toNat
  ring : t.ring = s.ring
  cursor : t.cursor = s.cursor
  smoothed : t.smoothed = s.smoothed

/-- After `m` samples `v`, the `k + 1` still to come complete calibration. -/
theorem run_constant_samples {v : Half} (k : Nat) {m : Nat} {s : State} (hf : s.faulted = false)
    (hactive : s.calActive = true) (hv : v.toNat < 2 ^ s.cfg.sw) (hremain : s.calRemain.toNat = k + 1)
    (hcount : s.calCount.toNat = m + (k + 1)) (hacc : s.calAcc.toNat = m * v.toNat)
    (hin : s.inputs = stream (List.replicate (k + 1) (.calSample false v))) :
    ∃ t, run (k + 1) s = .next t ∧ CalibratedTo v s t := by
  induction k generalizing m s with
  | zero =>
    have hadd := calAcc_add_constant hacc (by omega)
    have hone : s.calRemain = 1 := BitVec.eq_of_toNat_eq hremain
    have hstep := (step_stream hin (decide_eq_true hv)).trans (exec_calSample_last hf hactive hv hone)
    refine ⟨_, run_succ hstep, ?_⟩
    exact
      { offset := lastMean_constant (s := { s with inputs := stream [] }) hacc hcount
        done := rfl
        active := rfl
        remain := rfl
        acc := hadd.trans (congrArg (· * v.toNat) hcount.symm)
        ring := rfl
        cursor := rfl
        smoothed := rfl }
  | succ k ih =>
    have hadd := calAcc_add_constant hacc (by omega)
    have hmore : s.calRemain ≠ 1 := fun hone => by simp [hone] at hremain
    have hnext : (s.calRemain - 1).toNat = k + 1 := by
      rw [BitVec.toNat_sub_of_le (by bv_omega), hremain]
      rfl
    let p : State := { s with
      calAcc := s.calAcc + v.setWidth 32
      calRemain := s.calRemain - 1
      responses := s.responses ++ [⟨.ok, s.offset.setWidth 32⟩]
      inputs := stream (List.replicate (k + 1) (.calSample false v)) }
    have hstep : step s = .next p :=
      (step_stream hin (decide_eq_true hv)).trans (calSampleAccumulates _ v hf hactive hv hmore)
    obtain ⟨t, hrun, h⟩ := ih (s := p) hf hactive hv hnext (hcount.trans (by omega)) hadd rfl
    exact ⟨t, (run_succ hstep).trans hrun, { h with }⟩

/-- Settles O20: CAL_START counts the samples to come, and n samples v have the mean v. -/
theorem constantCalibrationGivesTheConstant : Obligations.ConstantCalibrationGivesTheConstant := by
  intro s n v hf hactive hdone hn hlt hv
  obtain ⟨k, rfl⟩ : ∃ k, n = k + 1 := ⟨n - 1, by omega⟩
  have hcount : (BitVec.ofNat 16 (k + 1)).toNat = k + 1 := Nat.mod_eq_of_lt hlt
  have hne : BitVec.ofNat 16 (k + 1) ≠ 0 := fun hzero => by simp [hzero] at hcount
  let u : State := { s with
    inputs := stream (.calStart (BitVec.ofNat 16 (k + 1)) :: List.replicate (k + 1) (.calSample false v)) }
  let p : State := { s with
    calCount := BitVec.ofNat 16 (k + 1)
    calRemain := BitVec.ofNat 16 (k + 1)
    calAcc := 0
    calActive := true
    responses := s.responses ++ [⟨.ok, 0⟩]
    inputs := stream (List.replicate (k + 1) (.calSample false v)) }
  have hstep : step u = .next p :=
    (step_stream rfl rfl).trans (calStartCompletes _ (BitVec.ofNat 16 (k + 1)) hf hactive hdone hne)
  obtain ⟨t, hrun, h⟩ := run_constant_samples k (s := p) (m := 0) hf rfl hv hcount (by rwa [Nat.zero_add])
    (Nat.zero_mul _).symm rfl
  have hacc : t.calAcc.toNat = (k + 1) * v.toNat := h.acc.trans (congrArg (· * v.toNat) hcount)
  exact ⟨t, (run_succ hstep).trans hrun, h.offset, h.done, h.active, h.remain, hacc, h.ring, h.cursor, h.smoothed⟩

end Sys2Proof.Machine
end

section
namespace Sys2Proof.Machine

/-! ## The rows of the transition table that R135 names, each as an equation -/

theorem held_eq_false_iff {s : State} {now : Word} :
    held s now = false ↔ (now - s.actTime).toNat < s.cfg.hold := by
  simp [held]

theorem settleGate_writeAmplitude (s : State) (now : Word) :
    settleGate (writeAmplitude s) now = { writeAmplitude s with debPending := !gateOpen s now } := by
  rw [settleGate_eq, gateOpen_writeAmplitude]

/-- The first row of R135. -/
theorem tickState_gate_closed {s : State} {now : Word} (hidle : s.detState = .idle) (hgate : gateOpen s now = false) :
    tickState s now = writeAmplitude s := by
  have hu : settleGate (writeAmplitude s) now = writeAmplitude s :=
    settleGate_closed (gateOpen_writeAmplitude s now ▸ hgate)
  simpa [hidle, hgate, hu] using tickState_cases s now

/-- The second row of R135. -/
theorem tickState_refreshes {s : State} {now : Word} (hidle : s.detState = .idle) (hgate : gateOpen s now = true)
    (hquiet : amplitudeOf s ≤ s.cfg.threshold) :
    tickState s now = render { writeAmplitude s with debPending := false } s.cfg.idle := by
  simpa [hidle, hgate, hquiet, hquiet.not_gt, settleGate_writeAmplitude] using tickState_cases s now

/-- The activation that the hold of 0 undoes at once (R134). -/
theorem tickState_activates_and_deactivates {s : State} {now : Word} (hidle : s.detState = .idle)
    (hgate : gateOpen s now = true) (htrigger : s.cfg.threshold < amplitudeOf s) (hhold : s.cfg.hold = 0) :
    tickState s now = deactivate (activate { writeAmplitude s with debPending := false } now) now := by
  simpa [hidle, hgate, htrigger, htrigger.not_ge, hhold, settleGate_writeAmplitude] using tickState_cases s now

/-- The fifth row of R135. -/
theorem tickState_stays_active {s : State} {now : Word} (hactive : s.detState = .active) (hheld : held s now = false) :
    tickState s now = { writeAmplitude s with debPending := !gateOpen s now } := by
  simpa [hactive, hheld, settleGate_writeAmplitude] using tickState_cases s now

/-- Settles O27: the closed gate leaves everything but AMPLITUDE. -/
theorem tickWithGateClosedHolds : Obligations.TickWithGateClosedHolds := by
  intro s now hadm hidle hpending hearly
  rw [hadm.exec_tick, tickState_gate_closed hidle (gateOpen_eq_false_iff.2 ⟨hpending, hearly⟩)]
  rfl

/-- Settles O28: the tick is the render of IDLE on the state with the gate settled. -/
theorem tickRefreshesIdle : Obligations.TickRefreshesIdle := by
  intro s now hadm hidle hgate hquiet
  rw [hadm.exec_tick, tickState_refreshes hidle (gateOpen_iff.2 hgate) hquiet, render_eq]
  rfl

/-- Settles O30: the tick is both edges in turn, and their eight appends to OUT are one. -/
theorem tickWithZeroHoldActivatesAndDeactivates : Obligations.TickWithZeroHoldActivatesAndDeactivates := by
  intro s now hadm hidle hgate htrigger hhold
  rw [hadm.exec_tick, tickState_activates_and_deactivates hidle (gateOpen_iff.2 hgate) htrigger hhold, deactivate_eq,
    activate_eq, frameBytes_replicate_black]
  simp [State.respond, writeAmplitude, Colour.black, BitVec.add_assoc]

/-- Settles O31: before HOLD has elapsed only the gate is left to settle. -/
theorem tickStaysActive : Obligations.TickStaysActive := by
  intro s now hadm hactive hearly
  have hpending : (!gateOpen s now) = (s.debPending && decide ((now - s.deactTime).toNat < s.cfg.debounce)) := by
    simp [gateOpen, ← decide_not]
  rw [hadm.exec_tick, tickState_stays_active hactive (held_eq_false_iff.2 hearly), hpending]
  rfl

/-- Settles O37: |2090 - 2048| * 13 / 10 = 54, above the threshold of 50. -/
theorem amplitudeExampleActivates : Obligations.AmplitudeExampleActivates := by
  intro s now hadm hnum hden hthreshold hhold hoffset hsmoothed hidle hgate
  have hamp : amplitudeOf s = 54 := by
    rw [amplitudeOf, hsmoothed, hoffset, hnum, hden]
    rfl
  have ht := tickState_activates hidle hgate (by omega) hhold
  refine ⟨_, hadm.exec_tick now, ?_, ?_, ?_⟩
  · rw [State.respond_amplitude, tickState_amplitude, hamp]
    rfl
  · rw [State.respond_detState, ht, activate_eq]
  · rw [State.respond_actTime, ht, activate_eq]

/-! ## STEP (41_detection.md section 4) -/

/-- A STEP that no check stops is a tick of the block with its sample pushed (R142). -/
theorem TickAdmitted.exec_step {s : State} (h : TickAdmitted s) (hring : RingPresent s) {raw : Half}
    (hraw : raw.toNat < 2 ^ s.cfg.sw) (now : Word) :
    exec (.step false raw now) s =
      .next ((tickState (pushSample s raw) now).respond .ok (tickState (pushSample s raw) now).amplitude) := by
  have hfault : faultOf (.step false raw now) s = none := by
    simp [faultOf_step, h.not_calibrating, h.calibrated, hraw]
  exact exec_performs (.inl h.not_faulted) hfault ⟨hring, h.pixels, rfl⟩

theorem TickAdmitted.respond {s : State} (h : TickAdmitted s) (rc : RespCode) (data : Word) :
    TickAdmitted (s.respond rc data) :=
  ⟨h.not_faulted, h.not_calibrating, h.calibrated, h.pixels⟩

theorem TickAdmitted.pushSample {s : State} (h : TickAdmitted s) (raw : Half) : TickAdmitted (pushSample s raw) :=
  ⟨h.not_faulted, h.not_calibrating, h.calibrated, h.pixels⟩

/-- A response before the tick changes nothing of the tick. -/
theorem TickAdmitted.exec_tick_respond {s : State} (h : TickAdmitted s) (now : Word) (rc : RespCode) (data : Word) :
    exec (.tick now) (s.respond rc data) =
      .next (((tickState s now).respond rc data).respond .ok (BitVec.ofNat 32 (amplitudeOf s))) := by
  rw [(h.respond rc data).exec_tick, tickState_respond]
  rfl

/-- Settles O33: the tick does not see the response of the push, so the two commands come to the one. -/
theorem stepIsPushThenTick : Obligations.StepIsPushThenTick := by
  intro s raw now hadm hring hraw
  have hpush := exec_push hadm.not_faulted hadm.not_calibrating hraw hring
  have htick := (hadm.pushSample raw).exec_tick_respond now .ok ((pushSample s raw).smoothed.setWidth 32)
  have hresponses : (tickState (pushSample s raw) now).responses = s.responses := tickState_responses ..
  refine ⟨_, _, hpush, htick, ?_⟩
  rw [hadm.exec_step hring hraw, ← hresponses, State.respond_amplitude, State.respond_amplitude]
  generalize tickState (pushSample s raw) now = t
  rfl

/-! ## Hold and debounce, for TICK and STEP (41_detection.md section 5) -/

/-- The block with other contents of the smoother. -/
def withSmoother (s : State) (ring : List Half) (cursor : BitVec 8) (smoothed : Half) : State :=
  { s with ring := ring, cursor := cursor, smoothed := smoothed }

/-- A TICK or STEP that neither is ignored nor faults is a tick, of a block that a STEP has changed in the smoother
only. -/
theorem exec_ticksAt {s t : State} {i : Instr} {now : Word} (htick : ticksAt now i = true) (h : exec i s = .next t)
    (hs : s.faulted = false) (ht : t.faulted = false) :
    ∃ ring cursor smoothed data, t = (tickState (withSmoother s ring cursor smoothed) now).respond .ok data := by
  obtain ⟨hset, -⟩ | ⟨-, f, info, -, rfl⟩ | ⟨-, -, hp⟩ := exec_cases h
  · simp [hs] at hset
  · simp at ht
  · cases i with
    | tick n =>
      obtain rfl : n = now := of_decide_eq_true htick
      obtain ⟨-, rfl⟩ := hp
      exact ⟨s.ring, s.cursor, s.smoothed, _, rfl⟩
    | step err raw n =>
      obtain rfl : n = now := of_decide_eq_true (Bool.and_eq_true_iff.1 htick).2
      obtain ⟨-, -, rfl⟩ := hp
      exact ⟨_, _, _, _, rfl⟩
    | _ => simp [ticksAt] at htick

/-- Settles O34: the smoother plays no part in the hold timer, and the two Active rows decide. -/
theorem activeUntilHoldElapses : Obligations.ActiveUntilHoldElapses := by
  intro s t i now hactive htick h hs ht
  obtain ⟨ring, cursor, smoothed, data, rfl⟩ := exec_ticksAt htick h hs ht
  refine ⟨fun hearly => ?_, fun hheld => ?_⟩
  · rw [tickState_stays_active (s := withSmoother s ring cursor smoothed) hactive (held_eq_false_iff.2 hearly)]
    exact ⟨hactive, rfl, rfl⟩
  · rw [tickState_deactivates (s := withSmoother s ring cursor smoothed) hactive (held_iff.2 hheld), deactivate_eq]
    exact ⟨rfl, rfl, rfl⟩

/-- Settles O35: inside the interval the gate is closed; after it the gate is open and the amplitude, which AMPLITUDE
never exceeds, triggers. -/
theorem debounceBlocksThenAdmits : Obligations.DebounceBlocksThenAdmits := by
  intro s t i now _ hidle hpending htick h hs ht
  obtain ⟨ring, cursor, smoothed, data, rfl⟩ := exec_ticksAt htick h hs ht
  refine ⟨fun hearly => ?_, fun hlate habove hhold => ?_⟩
  · rw [tickState_gate_closed (s := withSmoother s ring cursor smoothed) hidle
      (gateOpen_eq_false_iff.2 ⟨hpending, hearly⟩)]
    exact ⟨hidle, hpending, rfl, rfl⟩
  · rw [State.respond_amplitude, tickState_amplitude, BitVec.toNat_ofNat] at habove
    have htrigger := habove.trans_le (Nat.mod_le _ _)
    rw [tickState_activates (s := withSmoother s ring cursor smoothed) hidle (gateOpen_iff.2 (.inr hlate)) htrigger
      hhold, activate_eq]
    exact ⟨rfl, rfl, rfl⟩

/-! ## What the transitions read (41_detection.md section 1) -/

/-- Two ticks took the same row of the transition table: the same next state and gate, the same events but for the bytes
of a frame, and the same edges recorded. -/
structure SameRow (s₁ s₂ t₁ t₂ : State) (now₁ now₂ : Word) : Prop where
  detState : t₁.detState = t₂.detState
  debPending : t₁.debPending = t₂.debPending
  events : ∃ ev₁ ev₂, t₁.out = s₁.out ++ ev₁ ∧ t₂.out = s₂.out ++ ev₂ ∧
    ev₁.map OutEvent.withoutBytes = ev₂.map OutEvent.withoutBytes
  actTime : (t₁.actTime = s₁.actTime ∧ t₂.actTime = s₂.actTime) ∨ (t₁.actTime = now₁ ∧ t₂.actTime = now₂)
  deactTime : (t₁.deactTime = s₁.deactTime ∧ t₂.deactTime = s₂.deactTime) ∨ (t₁.deactTime = now₁ ∧ t₂.deactTime = now₂)

theorem SameRow.respond {s₁ s₂ t₁ t₂ : State} {now₁ now₂ : Word} (h : SameRow s₁ s₂ t₁ t₂ now₁ now₂)
    (rc : RespCode) (data₁ data₂ : Word) : SameRow s₁ s₂ (t₁.respond rc data₁) (t₂.respond rc data₂) now₁ now₂ :=
  ⟨h.detState, h.debPending, h.events, h.actTime, h.deactTime⟩

theorem activationEvents_map_withoutBytes {s₁ s₂ : State} (hcfg : s₁.cfg = s₂.cfg) :
    (activationEvents s₁).map OutEvent.withoutBytes = (activationEvents s₂).map OutEvent.withoutBytes := by
  simp [activationEvents, OutEvent.withoutBytes, hcfg]

theorem tickState_sameRow {s₁ s₂ : State} {now₁ now₂ : Word} (hcfg : s₁.cfg = s₂.cfg)
    (hstate : s₁.detState = s₂.detState) (hamp : amplitudeOf s₁ = amplitudeOf s₂)
    (hgates : gateOpen s₁ now₁ = gateOpen s₂ now₂) (helapsed : elapsed now₁ s₁.actTime = elapsed now₂ s₂.actTime) :
    SameRow s₁ s₂ (tickState s₁ now₁) (tickState s₂ now₂) now₁ now₂ := by
  have hholds : held s₁ now₁ = held s₂ now₂ := by rw [held, held, hcfg, helapsed]
  obtain ⟨hidle, hgate, -⟩ | ⟨hidle, hgate, hquiet, -⟩ | ⟨hidle, hgate, htrigger, hhold, -⟩ |
    ⟨hidle, hgate, htrigger, hhold, -⟩ | ⟨hactive, hheld, -⟩ | ⟨hactive, hheld, -⟩ := tickState_cases s₁ now₁
  · have hpending₁ := (gateOpen_eq_false_iff.1 hgate).1
    have hpending₂ := (gateOpen_eq_false_iff.1 (hgates ▸ hgate)).1
    rw [tickState_gate_closed hidle hgate, tickState_gate_closed (hstate ▸ hidle) (hgates ▸ hgate)]
    exact ⟨hstate, hpending₁.trans hpending₂.symm, ⟨[], [], (List.append_nil _).symm, (List.append_nil _).symm, rfl⟩,
      .inl ⟨rfl, rfl⟩, .inl ⟨rfl, rfl⟩⟩
  · rw [tickState_refreshes hidle hgate hquiet,
      tickState_refreshes (hstate ▸ hidle) (hgates ▸ hgate) (hcfg ▸ hamp ▸ hquiet)]
    exact ⟨hstate, rfl, ⟨[_], [_], rfl, rfl, rfl⟩, .inl ⟨rfl, rfl⟩, .inl ⟨rfl, rfl⟩⟩
  · rw [tickState_activates hidle hgate htrigger hhold,
      tickState_activates (hstate ▸ hidle) (hgates ▸ hgate) (hcfg ▸ hamp ▸ htrigger) (hcfg ▸ hhold),
      activate_eq_events, activate_eq_events]
    exact ⟨rfl, rfl, ⟨_, _, rfl, rfl, activationEvents_map_withoutBytes hcfg⟩, .inr ⟨rfl, rfl⟩, .inl ⟨rfl, rfl⟩⟩
  · rw [tickState_activates_and_deactivates hidle hgate htrigger hhold,
      tickState_activates_and_deactivates (hstate ▸ hidle) (hgates ▸ hgate) (hcfg ▸ hamp ▸ htrigger) (hcfg ▸ hhold),
      deactivate_eq_events, activate_eq_events, deactivate_eq_events, activate_eq_events]
    refine ⟨rfl, rfl, ⟨_, _, List.append_assoc .., List.append_assoc .., ?_⟩, .inr ⟨rfl, rfl⟩, .inr ⟨rfl, rfl⟩⟩
    rw [List.map_append, List.map_append]
    exact congrArg (· ++ _) (activationEvents_map_withoutBytes hcfg)
  · rw [tickState_stays_active hactive hheld, tickState_stays_active (hstate ▸ hactive) (hholds ▸ hheld), hgates]
    exact ⟨hstate, rfl, ⟨[], [], (List.append_nil _).symm, (List.append_nil _).symm, rfl⟩, .inl ⟨rfl, rfl⟩,
      .inl ⟨rfl, rfl⟩⟩
  · rw [tickState_deactivates hactive hheld, tickState_deactivates (hstate ▸ hactive) (hholds ▸ hheld),
      deactivate_eq_events, deactivate_eq_events]
    exact ⟨rfl, rfl, ⟨_, _, rfl, rfl, rfl⟩, .inl ⟨rfl, rfl⟩, .inr ⟨rfl, rfl⟩⟩

/-- Settles O36: the two ticks take the same row, and the response changes none of what it says. -/
theorem transitionsReadOnlyTheirInputs : Obligations.TransitionsReadOnlyTheirInputs := by
  intro s₁ s₂ t₁ t₂ now₁ now₂ hadm₁ hadm₂ hcfg hstate hamp hgates helapsed h₁ h₂
  rw [hadm₁.exec_tick] at h₁
  rw [hadm₂.exec_tick] at h₂
  obtain rfl := Host.Outcome.next.inj h₁
  obtain rfl := Host.Outcome.next.inj h₂
  obtain ⟨hdet, hpending, hevents, hact, hdeact⟩ :=
    (tickState_sameRow hcfg hstate hamp hgates helapsed).respond .ok (BitVec.ofNat 32 (amplitudeOf s₁))
      (BitVec.ofNat 32 (amplitudeOf s₂))
  refine ⟨hdet, ?_, hpending, hevents, hact, hdeact⟩
  rw [State.respond_amplitude, State.respond_amplitude, tickState_amplitude, tickState_amplitude, hamp]

end Sys2Proof.Machine
end
